-- ==== Sys2Proof/Word.lean ====
section
/-! DEFINITION. The word types of the block (spec/00_scope.md R7, R9). -/

namespace Sys2Proof

/-- A byte: the width of A, X, Y, SP and of every bus cell (00_scope.md R7). -/
abbrev Byte := BitVec 8

/-- A 16-bit word: the width of PC and of an address (00_scope.md R7). -/
abbrev Word := BitVec 16

/-- A 16-bit signed audio sample, in two's complement (00_scope.md R7, 10_state.md R35). -/
abbrev Sample := BitVec 16

end Sys2Proof
end

