-- ==== Sys2Proof/Config.lean ====
section
/-! DEFINITION. The launch parameters of the block: the open parameters of spec/00_scope.md R8.

"A model takes each as an argument; a claim holds for every value the constraint admits unless it names one."
The model takes them as one record, which State carries and no step writes (notes/assumptions/1.md). The values written
here as defaults are R8's executable defaults, what a runner may use; no meaning depends on them.
`BUS_INIT` is not here: it is the contents of the bus at launch (Machine/State.lean, `State.launch`). -/

namespace Sys2Proof

/-- `IRQ_LINE`, a function from tick number to Bool (00_scope.md R8), as plain data: the level at tick `k` is entry `k` of
`levels`, and `rest` at every tick after the list. DESIGN CHOICE, safe: on any finite run every function agrees with
such a line (notes/assumptions/4.md). -/
structure IrqLine where
  levels : List Bool := []
  rest : Bool := false
  deriving DecidableEq, Repr

/-- The open parameters of 00_scope.md R8. -/
structure Config where
  /-- `UNKNOWN_OPCODE_CYCLES`: the "fixed penalty cost" of an unknown opcode. -/
  unknownOpcodeCycles : Nat := 2
  /-- `CPU_CLOCK_HZ`: the nominal clock rate. -/
  cpuClockHz : Nat := 1789773
  /-- `SAMPLE_RATE_HZ`: samples per second of emulated time. -/
  sampleRateHz : Nat := 44100
  /-- `RING_CAPACITY`: slots of the circular sample buffer. -/
  ringCapacity : Nat := 4096
  /-- `BATCH_SIZE`: samples per flush from staging to the ring. -/
  batchSize : Nat := 512
  /-- `GAIN_PULSE`: amplitude scale of each pulse output step. -/
  gainPulse : Int := 2000
  /-- `GAIN_TRIANGLE`: amplitude scale of each triangle output step. -/
  gainTriangle : Int := 400
  /-- `IRQ_LINE`: the maskable interrupt input. -/
  irqLine : IrqLine := {}
  /-- `RESET_A`, `RESET_X`, `RESET_Y`: register contents after reset. -/
  resetA : Byte := 0
  resetX : Byte := 0
  resetY : Byte := 0
  /-- `RESET_C`, `RESET_Z`, `RESET_V`, `RESET_N`, `RESET_D`: flag contents after reset. -/
  resetC : Bool := false
  resetZ : Bool := false
  resetV : Bool := false
  resetN : Bool := false
  resetD : Bool := false
  deriving DecidableEq, Repr

/-- The constraints 00_scope.md R8 puts on the parameters. -/
def Config.wf (g : Config) : Bool :=
  decide (1 ≤ g.unknownOpcodeCycles) && decide (0 < g.cpuClockHz) && decide (0 < g.sampleRateHz) &&
    decide (0 < g.ringCapacity) && decide (1 ≤ g.batchSize) && decide (g.batchSize ≤ g.ringCapacity)

end Sys2Proof
end

