-- ==== Sys2Proof/Syntax.lean ====
section
/-! DEFINITION. The instructions of the block: one constructor for each of the 151 known opcodes of spec/30_encoding.md
R125 (a mnemonic in one addressing mode), and one for the 105 unknown bytes of R120, which share one rule
(40_execute_cycle.md R144) and are told apart by their byte.

The operand of a constructor is the operand after decoding (R101): `i` an immediate byte, `z` a zero-page address byte,
`r` the signed offset byte of a branch, `w` the 16-bit little-endian operand of the 3-byte forms.
A constructor's suffix names its mode: Imm Immediate, Zp ZeroPage, ZpX and ZpY ZeroPageX and ZeroPageY, Abs Absolute,
AbsX and AbsY AbsoluteX and AbsoluteY, IndX IndirectX, IndY IndirectY, Ind Indirect, Acc Implied (accumulator);
no suffix: the mnemonic's only mode. -/

namespace Sys2Proof

/-- One instruction as decoded (30_encoding.md R100, R125). -/
inductive Instr where
  -- Loads, stores and transfers (41_load_store_transfer.md)
  /-- LDA IndirectX, load A, opcode 0xA1 (R171). -/
  | ldaIndX (z : Byte)
  /-- LDA ZeroPage, load A, opcode 0xA5 (R171). -/
  | ldaZp (z : Byte)
  /-- LDA Immediate, load A, opcode 0xA9 (R171). -/
  | ldaImm (i : Byte)
  /-- LDA Absolute, load A, opcode 0xAD (R171). -/
  | ldaAbs (w : Word)
  /-- LDA IndirectY, load A, opcode 0xB1 (R171). -/
  | ldaIndY (z : Byte)
  /-- LDA ZeroPageX, load A, opcode 0xB5 (R171). -/
  | ldaZpX (z : Byte)
  /-- LDA AbsoluteY, load A, opcode 0xB9 (R171). -/
  | ldaAbsY (w : Word)
  /-- LDA AbsoluteX, load A, opcode 0xBD (R171). -/
  | ldaAbsX (w : Word)
  /-- LDX Immediate, load X, opcode 0xA2 (R172). -/
  | ldxImm (i : Byte)
  /-- LDX ZeroPage, load X, opcode 0xA6 (R172). -/
  | ldxZp (z : Byte)
  /-- LDX Absolute, load X, opcode 0xAE (R172). -/
  | ldxAbs (w : Word)
  /-- LDX ZeroPageY, load X, opcode 0xB6 (R172). -/
  | ldxZpY (z : Byte)
  /-- LDX AbsoluteY, load X, opcode 0xBE (R172). -/
  | ldxAbsY (w : Word)
  /-- LDY Immediate, load Y, opcode 0xA0 (R173). -/
  | ldyImm (i : Byte)
  /-- LDY ZeroPage, load Y, opcode 0xA4 (R173). -/
  | ldyZp (z : Byte)
  /-- LDY Absolute, load Y, opcode 0xAC (R173). -/
  | ldyAbs (w : Word)
  /-- LDY ZeroPageX, load Y, opcode 0xB4 (R173). -/
  | ldyZpX (z : Byte)
  /-- LDY AbsoluteX, load Y, opcode 0xBC (R173). -/
  | ldyAbsX (w : Word)
  /-- STA IndirectX, store A, opcode 0x81 (R174). -/
  | staIndX (z : Byte)
  /-- STA ZeroPage, store A, opcode 0x85 (R174). -/
  | staZp (z : Byte)
  /-- STA Absolute, store A, opcode 0x8D (R174). -/
  | staAbs (w : Word)
  /-- STA IndirectY, store A, opcode 0x91 (R174). -/
  | staIndY (z : Byte)
  /-- STA ZeroPageX, store A, opcode 0x95 (R174). -/
  | staZpX (z : Byte)
  /-- STA AbsoluteY, store A, opcode 0x99 (R174). -/
  | staAbsY (w : Word)
  /-- STA AbsoluteX, store A, opcode 0x9D (R174). -/
  | staAbsX (w : Word)
  /-- STX ZeroPage, store X, opcode 0x86 (R175). -/
  | stxZp (z : Byte)
  /-- STX Absolute, store X, opcode 0x8E (R175). -/
  | stxAbs (w : Word)
  /-- STX ZeroPageY, store X, opcode 0x96 (R175). -/
  | stxZpY (z : Byte)
  /-- STY ZeroPage, store Y, opcode 0x84 (R176). -/
  | styZp (z : Byte)
  /-- STY Absolute, store Y, opcode 0x8C (R176). -/
  | styAbs (w : Word)
  /-- STY ZeroPageX, store Y, opcode 0x94 (R176). -/
  | styZpX (z : Byte)
  /-- TAX Implied, A to X, opcode 0xAA (R177). -/
  | tax
  /-- TAY Implied, A to Y, opcode 0xA8 (R178). -/
  | tay
  /-- TXA Implied, X to A, opcode 0x8A (R179). -/
  | txa
  /-- TYA Implied, Y to A, opcode 0x98 (R180). -/
  | tya
  /-- TSX Implied, SP to X, opcode 0xBA (R181). -/
  | tsx
  /-- TXS Implied, X to SP, opcode 0x9A (R182). -/
  | txs
  -- Arithmetic, logic, compare and bit test (42_arith_logic.md)
  /-- ADC IndirectX, add with carry, opcode 0x61 (R201). -/
  | adcIndX (z : Byte)
  /-- ADC ZeroPage, add with carry, opcode 0x65 (R201). -/
  | adcZp (z : Byte)
  /-- ADC Immediate, add with carry, opcode 0x69 (R201). -/
  | adcImm (i : Byte)
  /-- ADC Absolute, add with carry, opcode 0x6D (R201). -/
  | adcAbs (w : Word)
  /-- ADC IndirectY, add with carry, opcode 0x71 (R201). -/
  | adcIndY (z : Byte)
  /-- ADC ZeroPageX, add with carry, opcode 0x75 (R201). -/
  | adcZpX (z : Byte)
  /-- ADC AbsoluteY, add with carry, opcode 0x79 (R201). -/
  | adcAbsY (w : Word)
  /-- ADC AbsoluteX, add with carry, opcode 0x7D (R201). -/
  | adcAbsX (w : Word)
  /-- SBC IndirectX, subtract with borrow, opcode 0xE1 (R202). -/
  | sbcIndX (z : Byte)
  /-- SBC ZeroPage, subtract with borrow, opcode 0xE5 (R202). -/
  | sbcZp (z : Byte)
  /-- SBC Immediate, subtract with borrow, opcode 0xE9 (R202). -/
  | sbcImm (i : Byte)
  /-- SBC Absolute, subtract with borrow, opcode 0xED (R202). -/
  | sbcAbs (w : Word)
  /-- SBC IndirectY, subtract with borrow, opcode 0xF1 (R202). -/
  | sbcIndY (z : Byte)
  /-- SBC ZeroPageX, subtract with borrow, opcode 0xF5 (R202). -/
  | sbcZpX (z : Byte)
  /-- SBC AbsoluteY, subtract with borrow, opcode 0xF9 (R202). -/
  | sbcAbsY (w : Word)
  /-- SBC AbsoluteX, subtract with borrow, opcode 0xFD (R202). -/
  | sbcAbsX (w : Word)
  /-- AND IndirectX, bitwise and, opcode 0x21 (R203). -/
  | andIndX (z : Byte)
  /-- AND ZeroPage, bitwise and, opcode 0x25 (R203). -/
  | andZp (z : Byte)
  /-- AND Immediate, bitwise and, opcode 0x29 (R203). -/
  | andImm (i : Byte)
  /-- AND Absolute, bitwise and, opcode 0x2D (R203). -/
  | andAbs (w : Word)
  /-- AND IndirectY, bitwise and, opcode 0x31 (R203). -/
  | andIndY (z : Byte)
  /-- AND ZeroPageX, bitwise and, opcode 0x35 (R203). -/
  | andZpX (z : Byte)
  /-- AND AbsoluteY, bitwise and, opcode 0x39 (R203). -/
  | andAbsY (w : Word)
  /-- AND AbsoluteX, bitwise and, opcode 0x3D (R203). -/
  | andAbsX (w : Word)
  /-- ORA IndirectX, bitwise or, opcode 0x01 (R204). -/
  | oraIndX (z : Byte)
  /-- ORA ZeroPage, bitwise or, opcode 0x05 (R204). -/
  | oraZp (z : Byte)
  /-- ORA Immediate, bitwise or, opcode 0x09 (R204). -/
  | oraImm (i : Byte)
  /-- ORA Absolute, bitwise or, opcode 0x0D (R204). -/
  | oraAbs (w : Word)
  /-- ORA IndirectY, bitwise or, opcode 0x11 (R204). -/
  | oraIndY (z : Byte)
  /-- ORA ZeroPageX, bitwise or, opcode 0x15 (R204). -/
  | oraZpX (z : Byte)
  /-- ORA AbsoluteY, bitwise or, opcode 0x19 (R204). -/
  | oraAbsY (w : Word)
  /-- ORA AbsoluteX, bitwise or, opcode 0x1D (R204). -/
  | oraAbsX (w : Word)
  /-- EOR IndirectX, bitwise exclusive or, opcode 0x41 (R205). -/
  | eorIndX (z : Byte)
  /-- EOR ZeroPage, bitwise exclusive or, opcode 0x45 (R205). -/
  | eorZp (z : Byte)
  /-- EOR Immediate, bitwise exclusive or, opcode 0x49 (R205). -/
  | eorImm (i : Byte)
  /-- EOR Absolute, bitwise exclusive or, opcode 0x4D (R205). -/
  | eorAbs (w : Word)
  /-- EOR IndirectY, bitwise exclusive or, opcode 0x51 (R205). -/
  | eorIndY (z : Byte)
  /-- EOR ZeroPageX, bitwise exclusive or, opcode 0x55 (R205). -/
  | eorZpX (z : Byte)
  /-- EOR AbsoluteY, bitwise exclusive or, opcode 0x59 (R205). -/
  | eorAbsY (w : Word)
  /-- EOR AbsoluteX, bitwise exclusive or, opcode 0x5D (R205). -/
  | eorAbsX (w : Word)
  /-- CMP IndirectX, compare with A, opcode 0xC1 (R207). -/
  | cmpIndX (z : Byte)
  /-- CMP ZeroPage, compare with A, opcode 0xC5 (R207). -/
  | cmpZp (z : Byte)
  /-- CMP Immediate, compare with A, opcode 0xC9 (R207). -/
  | cmpImm (i : Byte)
  /-- CMP Absolute, compare with A, opcode 0xCD (R207). -/
  | cmpAbs (w : Word)
  /-- CMP IndirectY, compare with A, opcode 0xD1 (R207). -/
  | cmpIndY (z : Byte)
  /-- CMP ZeroPageX, compare with A, opcode 0xD5 (R207). -/
  | cmpZpX (z : Byte)
  /-- CMP AbsoluteY, compare with A, opcode 0xD9 (R207). -/
  | cmpAbsY (w : Word)
  /-- CMP AbsoluteX, compare with A, opcode 0xDD (R207). -/
  | cmpAbsX (w : Word)
  /-- CPX Immediate, compare with X, opcode 0xE0 (R208). -/
  | cpxImm (i : Byte)
  /-- CPX ZeroPage, compare with X, opcode 0xE4 (R208). -/
  | cpxZp (z : Byte)
  /-- CPX Absolute, compare with X, opcode 0xEC (R208). -/
  | cpxAbs (w : Word)
  /-- CPY Immediate, compare with Y, opcode 0xC0 (R209). -/
  | cpyImm (i : Byte)
  /-- CPY ZeroPage, compare with Y, opcode 0xC4 (R209). -/
  | cpyZp (z : Byte)
  /-- CPY Absolute, compare with Y, opcode 0xCC (R209). -/
  | cpyAbs (w : Word)
  /-- BIT ZeroPage, bit test, opcode 0x24 (R210). -/
  | bitZp (z : Byte)
  /-- BIT Absolute, bit test, opcode 0x2C (R210). -/
  | bitAbs (w : Word)
  -- Shifts, rotates, increments and decrements (43_shift_incdec.md)
  /-- ASL ZeroPage, arithmetic shift left, opcode 0x06 (R231). -/
  | aslZp (z : Byte)
  /-- ASL Implied (accumulator), arithmetic shift left, opcode 0x0A (R231). -/
  | aslAcc
  /-- ASL Absolute, arithmetic shift left, opcode 0x0E (R231). -/
  | aslAbs (w : Word)
  /-- ASL ZeroPageX, arithmetic shift left, opcode 0x16 (R231). -/
  | aslZpX (z : Byte)
  /-- ASL AbsoluteX, arithmetic shift left, opcode 0x1E (R231). -/
  | aslAbsX (w : Word)
  /-- LSR ZeroPage, logical shift right, opcode 0x46 (R232). -/
  | lsrZp (z : Byte)
  /-- LSR Implied (accumulator), logical shift right, opcode 0x4A (R232). -/
  | lsrAcc
  /-- LSR Absolute, logical shift right, opcode 0x4E (R232). -/
  | lsrAbs (w : Word)
  /-- LSR ZeroPageX, logical shift right, opcode 0x56 (R232). -/
  | lsrZpX (z : Byte)
  /-- LSR AbsoluteX, logical shift right, opcode 0x5E (R232). -/
  | lsrAbsX (w : Word)
  /-- ROL ZeroPage, rotate left, opcode 0x26 (R233). -/
  | rolZp (z : Byte)
  /-- ROL Implied (accumulator), rotate left, opcode 0x2A (R233). -/
  | rolAcc
  /-- ROL Absolute, rotate left, opcode 0x2E (R233). -/
  | rolAbs (w : Word)
  /-- ROL ZeroPageX, rotate left, opcode 0x36 (R233). -/
  | rolZpX (z : Byte)
  /-- ROL AbsoluteX, rotate left, opcode 0x3E (R233). -/
  | rolAbsX (w : Word)
  /-- ROR ZeroPage, rotate right, opcode 0x66 (R234). -/
  | rorZp (z : Byte)
  /-- ROR Implied (accumulator), rotate right, opcode 0x6A (R234). -/
  | rorAcc
  /-- ROR Absolute, rotate right, opcode 0x6E (R234). -/
  | rorAbs (w : Word)
  /-- ROR ZeroPageX, rotate right, opcode 0x76 (R234). -/
  | rorZpX (z : Byte)
  /-- ROR AbsoluteX, rotate right, opcode 0x7E (R234). -/
  | rorAbsX (w : Word)
  /-- INC ZeroPage, increment memory, opcode 0xE6 (R235). -/
  | incZp (z : Byte)
  /-- INC Absolute, increment memory, opcode 0xEE (R235). -/
  | incAbs (w : Word)
  /-- INC ZeroPageX, increment memory, opcode 0xF6 (R235). -/
  | incZpX (z : Byte)
  /-- INC AbsoluteX, increment memory, opcode 0xFE (R235). -/
  | incAbsX (w : Word)
  /-- DEC ZeroPage, decrement memory, opcode 0xC6 (R236). -/
  | decZp (z : Byte)
  /-- DEC Absolute, decrement memory, opcode 0xCE (R236). -/
  | decAbs (w : Word)
  /-- DEC ZeroPageX, decrement memory, opcode 0xD6 (R236). -/
  | decZpX (z : Byte)
  /-- DEC AbsoluteX, decrement memory, opcode 0xDE (R236). -/
  | decAbsX (w : Word)
  /-- INX Implied, increment X, opcode 0xE8 (R237). -/
  | inx
  /-- INY Implied, increment Y, opcode 0xC8 (R238). -/
  | iny
  /-- DEX Implied, decrement X, opcode 0xCA (R239). -/
  | dex
  /-- DEY Implied, decrement Y, opcode 0x88 (R240). -/
  | dey
  -- Control transfer (44_control_flow.md)
  /-- JMP Absolute, jump, opcode 0x4C (R260). -/
  | jmpAbs (w : Word)
  /-- JMP Indirect, jump, opcode 0x6C (R260). -/
  | jmpInd (w : Word)
  /-- JSR Absolute, jump to subroutine, opcode 0x20 (R261). -/
  | jsr (w : Word)
  /-- RTS Implied, return from subroutine, opcode 0x60 (R262). -/
  | rts
  /-- RTI Implied, return from interrupt, opcode 0x40 (R263). -/
  | rti
  /-- BRK Implied, software interrupt, opcode 0x00 (R264). -/
  | brk
  /-- BCC Relative, branch if carry clear, opcode 0x90 (R266). -/
  | bcc (r : Byte)
  /-- BCS Relative, branch if carry set, opcode 0xB0 (R267). -/
  | bcs (r : Byte)
  /-- BEQ Relative, branch if equal, opcode 0xF0 (R268). -/
  | beq (r : Byte)
  /-- BNE Relative, branch if not equal, opcode 0xD0 (R269). -/
  | bne (r : Byte)
  /-- BMI Relative, branch if minus, opcode 0x30 (R270). -/
  | bmi (r : Byte)
  /-- BPL Relative, branch if plus, opcode 0x10 (R271). -/
  | bpl (r : Byte)
  /-- BVC Relative, branch if overflow clear, opcode 0x50 (R272). -/
  | bvc (r : Byte)
  /-- BVS Relative, branch if overflow set, opcode 0x70 (R273). -/
  | bvs (r : Byte)
  /-- NOP Implied, no operation, opcode 0xEA (R274). -/
  | nop
  -- Stack and flags (45_stack_flags.md)
  /-- PHA Implied, push A, opcode 0x48 (R290). -/
  | pha
  /-- PHP Implied, push P, opcode 0x08 (R291). -/
  | php
  /-- PLA Implied, pull A, opcode 0x68 (R292). -/
  | pla
  /-- PLP Implied, pull P, opcode 0x28 (R293). -/
  | plp
  /-- CLC Implied, clear carry, opcode 0x18 (R294). -/
  | clc
  /-- SEC Implied, set carry, opcode 0x38 (R295). -/
  | sec
  /-- CLI Implied, clear interrupt-disable, opcode 0x58 (R296). -/
  | cli
  /-- SEI Implied, set interrupt-disable, opcode 0x78 (R297). -/
  | sei
  /-- CLD Implied, clear decimal, opcode 0xD8 (R298). -/
  | cld
  /-- SED Implied, set decimal, opcode 0xF8 (R299). -/
  | sed
  /-- CLV Implied, clear overflow, opcode 0xB8 (R300). -/
  | clv
  -- Unknown opcodes (40_execute_cycle.md R144)
  /-- A byte with no descriptor; `op` is one of the 105 bytes of 30_encoding.md R120 (R144). -/
  | unknown (op : Byte)
  deriving DecidableEq, Repr

end Sys2Proof
end

