-- ==== Sys2Proof/Decode.lean ====
section
/-! DEFINITION. The opcode table and the decoder and encoder that stand on it (spec/30_encoding.md).

`Instr.row` is the listing of R125, one line for each known opcode: opcode byte, mnemonic, addressing mode, base cycles
and the mark "+1 if page crossed". `decodeBytes` is the opcode map read the other way (R117), written separately, so that
the round trip between the two says something. -/

namespace Sys2Proof

/-- The low byte of a word: `lo(w) = w mod 256` (00_scope.md R9). -/
def lo (w : Word) : Byte := w.setWidth 8

/-- The high byte of a word: `hi(w) = w div 256` (00_scope.md R9). It is also the word's page (R15). -/
def hi (w : Word) : Byte := (w >>> 8).setWidth 8

/-- `word(h, l) = h × 256 + l` (00_scope.md R9). -/
def word (h l : Byte) : Word := (h.setWidth 16 <<< 8) ||| l.setWidth 16

/-- The addressing modes (30_encoding.md R102); `accumulator` is "Implied (accumulator)" (R103). -/
inductive Mode where
  | implied | accumulator | immediate | zeroPage | zeroPageX | zeroPageY | absolute | absoluteX | absoluteY
  | indirectX | indirectY | indirect | relative
  deriving DecidableEq, Repr

/-- The operand length of a mode, in bytes (30_encoding.md R102). -/
def Mode.operandLength : Mode → Nat
  | .implied | .accumulator => 0
  | .immediate | .zeroPage | .zeroPageX | .zeroPageY | .indirectX | .indirectY | .relative => 1
  | .absolute | .absoluteX | .absoluteY | .indirect => 2

/-- The 56 mnemonics of 30_encoding.md R118, and the name opcode_table.json gives the unknown bytes. -/
inductive Mnemonic where
  | ADC | AND | ASL | BCC | BCS | BEQ | BIT | BMI | BNE | BPL | BRK | BVC | BVS | CLC | CLD | CLI | CLV | CMP | CPX | CPY
  | DEC | DEX | DEY | EOR | INC | INX | INY | JMP | JSR | LDA | LDX | LDY | LSR | NOP | ORA | PHA | PHP | PLA | PLP | ROL
  | ROR | RTI | RTS | SBC | SEC | SED | SEI | STA | STX | STY | TAX | TAY | TSX | TXA | TXS | TYA | UNKNOWN
  deriving DecidableEq, Repr

/-- One row of the opcode table: the "opcode descriptor" of 00_scope.md R15 without its operation.
`cycles` is the base cost, `none` where the table has the parameter `UNKNOWN_OPCODE_CYCLES` in its place (R144);
`pagePenalty` is the mark "+1 if page crossed" (30_encoding.md R119). -/
structure Row where
  opcode : Byte
  mnemonic : Mnemonic
  mode : Mode
  cycles : Option Nat
  pagePenalty : Bool
  deriving DecidableEq, Repr

/-- The complete listing of 30_encoding.md R125 (and R120 for the unknown bytes, of length 1). -/
def Instr.row : Instr → Row
  | .adcIndX _ => ⟨0x61, .ADC, .indirectX, some 6, false⟩
  | .adcZp _ => ⟨0x65, .ADC, .zeroPage, some 3, false⟩
  | .adcImm _ => ⟨0x69, .ADC, .immediate, some 2, false⟩
  | .adcAbs _ => ⟨0x6D, .ADC, .absolute, some 4, false⟩
  | .adcIndY _ => ⟨0x71, .ADC, .indirectY, some 5, true⟩
  | .adcZpX _ => ⟨0x75, .ADC, .zeroPageX, some 4, false⟩
  | .adcAbsY _ => ⟨0x79, .ADC, .absoluteY, some 4, true⟩
  | .adcAbsX _ => ⟨0x7D, .ADC, .absoluteX, some 4, true⟩
  | .andIndX _ => ⟨0x21, .AND, .indirectX, some 6, false⟩
  | .andZp _ => ⟨0x25, .AND, .zeroPage, some 3, false⟩
  | .andImm _ => ⟨0x29, .AND, .immediate, some 2, false⟩
  | .andAbs _ => ⟨0x2D, .AND, .absolute, some 4, false⟩
  | .andIndY _ => ⟨0x31, .AND, .indirectY, some 5, true⟩
  | .andZpX _ => ⟨0x35, .AND, .zeroPageX, some 4, false⟩
  | .andAbsY _ => ⟨0x39, .AND, .absoluteY, some 4, true⟩
  | .andAbsX _ => ⟨0x3D, .AND, .absoluteX, some 4, true⟩
  | .aslZp _ => ⟨0x06, .ASL, .zeroPage, some 5, false⟩
  | .aslAcc => ⟨0x0A, .ASL, .accumulator, some 2, false⟩
  | .aslAbs _ => ⟨0x0E, .ASL, .absolute, some 6, false⟩
  | .aslZpX _ => ⟨0x16, .ASL, .zeroPageX, some 6, false⟩
  | .aslAbsX _ => ⟨0x1E, .ASL, .absoluteX, some 7, false⟩
  | .bcc _ => ⟨0x90, .BCC, .relative, some 2, false⟩
  | .bcs _ => ⟨0xB0, .BCS, .relative, some 2, false⟩
  | .beq _ => ⟨0xF0, .BEQ, .relative, some 2, false⟩
  | .bitZp _ => ⟨0x24, .BIT, .zeroPage, some 3, false⟩
  | .bitAbs _ => ⟨0x2C, .BIT, .absolute, some 4, false⟩
  | .bmi _ => ⟨0x30, .BMI, .relative, some 2, false⟩
  | .bne _ => ⟨0xD0, .BNE, .relative, some 2, false⟩
  | .bpl _ => ⟨0x10, .BPL, .relative, some 2, false⟩
  | .brk => ⟨0x00, .BRK, .implied, some 7, false⟩
  | .bvc _ => ⟨0x50, .BVC, .relative, some 2, false⟩
  | .bvs _ => ⟨0x70, .BVS, .relative, some 2, false⟩
  | .clc => ⟨0x18, .CLC, .implied, some 2, false⟩
  | .cld => ⟨0xD8, .CLD, .implied, some 2, false⟩
  | .cli => ⟨0x58, .CLI, .implied, some 2, false⟩
  | .clv => ⟨0xB8, .CLV, .implied, some 2, false⟩
  | .cmpIndX _ => ⟨0xC1, .CMP, .indirectX, some 6, false⟩
  | .cmpZp _ => ⟨0xC5, .CMP, .zeroPage, some 3, false⟩
  | .cmpImm _ => ⟨0xC9, .CMP, .immediate, some 2, false⟩
  | .cmpAbs _ => ⟨0xCD, .CMP, .absolute, some 4, false⟩
  | .cmpIndY _ => ⟨0xD1, .CMP, .indirectY, some 5, true⟩
  | .cmpZpX _ => ⟨0xD5, .CMP, .zeroPageX, some 4, false⟩
  | .cmpAbsY _ => ⟨0xD9, .CMP, .absoluteY, some 4, true⟩
  | .cmpAbsX _ => ⟨0xDD, .CMP, .absoluteX, some 4, true⟩
  | .cpxImm _ => ⟨0xE0, .CPX, .immediate, some 2, false⟩
  | .cpxZp _ => ⟨0xE4, .CPX, .zeroPage, some 3, false⟩
  | .cpxAbs _ => ⟨0xEC, .CPX, .absolute, some 4, false⟩
  | .cpyImm _ => ⟨0xC0, .CPY, .immediate, some 2, false⟩
  | .cpyZp _ => ⟨0xC4, .CPY, .zeroPage, some 3, false⟩
  | .cpyAbs _ => ⟨0xCC, .CPY, .absolute, some 4, false⟩
  | .decZp _ => ⟨0xC6, .DEC, .zeroPage, some 5, false⟩
  | .decAbs _ => ⟨0xCE, .DEC, .absolute, some 6, false⟩
  | .decZpX _ => ⟨0xD6, .DEC, .zeroPageX, some 6, false⟩
  | .decAbsX _ => ⟨0xDE, .DEC, .absoluteX, some 7, false⟩
  | .dex => ⟨0xCA, .DEX, .implied, some 2, false⟩
  | .dey => ⟨0x88, .DEY, .implied, some 2, false⟩
  | .eorIndX _ => ⟨0x41, .EOR, .indirectX, some 6, false⟩
  | .eorZp _ => ⟨0x45, .EOR, .zeroPage, some 3, false⟩
  | .eorImm _ => ⟨0x49, .EOR, .immediate, some 2, false⟩
  | .eorAbs _ => ⟨0x4D, .EOR, .absolute, some 4, false⟩
  | .eorIndY _ => ⟨0x51, .EOR, .indirectY, some 5, true⟩
  | .eorZpX _ => ⟨0x55, .EOR, .zeroPageX, some 4, false⟩
  | .eorAbsY _ => ⟨0x59, .EOR, .absoluteY, some 4, true⟩
  | .eorAbsX _ => ⟨0x5D, .EOR, .absoluteX, some 4, true⟩
  | .incZp _ => ⟨0xE6, .INC, .zeroPage, some 5, false⟩
  | .incAbs _ => ⟨0xEE, .INC, .absolute, some 6, false⟩
  | .incZpX _ => ⟨0xF6, .INC, .zeroPageX, some 6, false⟩
  | .incAbsX _ => ⟨0xFE, .INC, .absoluteX, some 7, false⟩
  | .inx => ⟨0xE8, .INX, .implied, some 2, false⟩
  | .iny => ⟨0xC8, .INY, .implied, some 2, false⟩
  | .jmpAbs _ => ⟨0x4C, .JMP, .absolute, some 3, false⟩
  | .jmpInd _ => ⟨0x6C, .JMP, .indirect, some 5, false⟩
  | .jsr _ => ⟨0x20, .JSR, .absolute, some 6, false⟩
  | .ldaIndX _ => ⟨0xA1, .LDA, .indirectX, some 6, false⟩
  | .ldaZp _ => ⟨0xA5, .LDA, .zeroPage, some 3, false⟩
  | .ldaImm _ => ⟨0xA9, .LDA, .immediate, some 2, false⟩
  | .ldaAbs _ => ⟨0xAD, .LDA, .absolute, some 4, false⟩
  | .ldaIndY _ => ⟨0xB1, .LDA, .indirectY, some 5, true⟩
  | .ldaZpX _ => ⟨0xB5, .LDA, .zeroPageX, some 4, false⟩
  | .ldaAbsY _ => ⟨0xB9, .LDA, .absoluteY, some 4, true⟩
  | .ldaAbsX _ => ⟨0xBD, .LDA, .absoluteX, some 4, true⟩
  | .ldxImm _ => ⟨0xA2, .LDX, .immediate, some 2, false⟩
  | .ldxZp _ => ⟨0xA6, .LDX, .zeroPage, some 3, false⟩
  | .ldxAbs _ => ⟨0xAE, .LDX, .absolute, some 4, false⟩
  | .ldxZpY _ => ⟨0xB6, .LDX, .zeroPageY, some 4, false⟩
  | .ldxAbsY _ => ⟨0xBE, .LDX, .absoluteY, some 4, true⟩
  | .ldyImm _ => ⟨0xA0, .LDY, .immediate, some 2, false⟩
  | .ldyZp _ => ⟨0xA4, .LDY, .zeroPage, some 3, false⟩
  | .ldyAbs _ => ⟨0xAC, .LDY, .absolute, some 4, false⟩
  | .ldyZpX _ => ⟨0xB4, .LDY, .zeroPageX, some 4, false⟩
  | .ldyAbsX _ => ⟨0xBC, .LDY, .absoluteX, some 4, true⟩
  | .lsrZp _ => ⟨0x46, .LSR, .zeroPage, some 5, false⟩
  | .lsrAcc => ⟨0x4A, .LSR, .accumulator, some 2, false⟩
  | .lsrAbs _ => ⟨0x4E, .LSR, .absolute, some 6, false⟩
  | .lsrZpX _ => ⟨0x56, .LSR, .zeroPageX, some 6, false⟩
  | .lsrAbsX _ => ⟨0x5E, .LSR, .absoluteX, some 7, false⟩
  | .nop => ⟨0xEA, .NOP, .implied, some 2, false⟩
  | .oraIndX _ => ⟨0x01, .ORA, .indirectX, some 6, false⟩
  | .oraZp _ => ⟨0x05, .ORA, .zeroPage, some 3, false⟩
  | .oraImm _ => ⟨0x09, .ORA, .immediate, some 2, false⟩
  | .oraAbs _ => ⟨0x0D, .ORA, .absolute, some 4, false⟩
  | .oraIndY _ => ⟨0x11, .ORA, .indirectY, some 5, true⟩
  | .oraZpX _ => ⟨0x15, .ORA, .zeroPageX, some 4, false⟩
  | .oraAbsY _ => ⟨0x19, .ORA, .absoluteY, some 4, true⟩
  | .oraAbsX _ => ⟨0x1D, .ORA, .absoluteX, some 4, true⟩
  | .pha => ⟨0x48, .PHA, .implied, some 3, false⟩
  | .php => ⟨0x08, .PHP, .implied, some 3, false⟩
  | .pla => ⟨0x68, .PLA, .implied, some 4, false⟩
  | .plp => ⟨0x28, .PLP, .implied, some 4, false⟩
  | .rolZp _ => ⟨0x26, .ROL, .zeroPage, some 5, false⟩
  | .rolAcc => ⟨0x2A, .ROL, .accumulator, some 2, false⟩
  | .rolAbs _ => ⟨0x2E, .ROL, .absolute, some 6, false⟩
  | .rolZpX _ => ⟨0x36, .ROL, .zeroPageX, some 6, false⟩
  | .rolAbsX _ => ⟨0x3E, .ROL, .absoluteX, some 7, false⟩
  | .rorZp _ => ⟨0x66, .ROR, .zeroPage, some 5, false⟩
  | .rorAcc => ⟨0x6A, .ROR, .accumulator, some 2, false⟩
  | .rorAbs _ => ⟨0x6E, .ROR, .absolute, some 6, false⟩
  | .rorZpX _ => ⟨0x76, .ROR, .zeroPageX, some 6, false⟩
  | .rorAbsX _ => ⟨0x7E, .ROR, .absoluteX, some 7, false⟩
  | .rti => ⟨0x40, .RTI, .implied, some 6, false⟩
  | .rts => ⟨0x60, .RTS, .implied, some 6, false⟩
  | .sbcIndX _ => ⟨0xE1, .SBC, .indirectX, some 6, false⟩
  | .sbcZp _ => ⟨0xE5, .SBC, .zeroPage, some 3, false⟩
  | .sbcImm _ => ⟨0xE9, .SBC, .immediate, some 2, false⟩
  | .sbcAbs _ => ⟨0xED, .SBC, .absolute, some 4, false⟩
  | .sbcIndY _ => ⟨0xF1, .SBC, .indirectY, some 5, true⟩
  | .sbcZpX _ => ⟨0xF5, .SBC, .zeroPageX, some 4, false⟩
  | .sbcAbsY _ => ⟨0xF9, .SBC, .absoluteY, some 4, true⟩
  | .sbcAbsX _ => ⟨0xFD, .SBC, .absoluteX, some 4, true⟩
  | .sec => ⟨0x38, .SEC, .implied, some 2, false⟩
  | .sed => ⟨0xF8, .SED, .implied, some 2, false⟩
  | .sei => ⟨0x78, .SEI, .implied, some 2, false⟩
  | .staIndX _ => ⟨0x81, .STA, .indirectX, some 6, false⟩
  | .staZp _ => ⟨0x85, .STA, .zeroPage, some 3, false⟩
  | .staAbs _ => ⟨0x8D, .STA, .absolute, some 4, false⟩
  | .staIndY _ => ⟨0x91, .STA, .indirectY, some 6, false⟩
  | .staZpX _ => ⟨0x95, .STA, .zeroPageX, some 4, false⟩
  | .staAbsY _ => ⟨0x99, .STA, .absoluteY, some 5, false⟩
  | .staAbsX _ => ⟨0x9D, .STA, .absoluteX, some 5, false⟩
  | .stxZp _ => ⟨0x86, .STX, .zeroPage, some 3, false⟩
  | .stxAbs _ => ⟨0x8E, .STX, .absolute, some 4, false⟩
  | .stxZpY _ => ⟨0x96, .STX, .zeroPageY, some 4, false⟩
  | .styZp _ => ⟨0x84, .STY, .zeroPage, some 3, false⟩
  | .styAbs _ => ⟨0x8C, .STY, .absolute, some 4, false⟩
  | .styZpX _ => ⟨0x94, .STY, .zeroPageX, some 4, false⟩
  | .tax => ⟨0xAA, .TAX, .implied, some 2, false⟩
  | .tay => ⟨0xA8, .TAY, .implied, some 2, false⟩
  | .tsx => ⟨0xBA, .TSX, .implied, some 2, false⟩
  | .txa => ⟨0x8A, .TXA, .implied, some 2, false⟩
  | .txs => ⟨0x9A, .TXS, .implied, some 2, false⟩
  | .tya => ⟨0x98, .TYA, .implied, some 2, false⟩
  | .unknown op => ⟨op, .UNKNOWN, .implied, none, false⟩

/-- The instruction whose opcode byte is `op`, with `b1` and `b2` the two bytes after it (30_encoding.md R117, R101);
a form that has no use for a byte ignores it. Total: a byte with no descriptor is an unknown opcode (R120). -/
def decodeBytes (op b1 b2 : Byte) : Instr :=
  match op.toNat with
  | 0x00 => .brk
  | 0x01 => .oraIndX b1
  | 0x05 => .oraZp b1
  | 0x06 => .aslZp b1
  | 0x08 => .php
  | 0x09 => .oraImm b1
  | 0x0A => .aslAcc
  | 0x0D => .oraAbs (word b2 b1)
  | 0x0E => .aslAbs (word b2 b1)
  | 0x10 => .bpl b1
  | 0x11 => .oraIndY b1
  | 0x15 => .oraZpX b1
  | 0x16 => .aslZpX b1
  | 0x18 => .clc
  | 0x19 => .oraAbsY (word b2 b1)
  | 0x1D => .oraAbsX (word b2 b1)
  | 0x1E => .aslAbsX (word b2 b1)
  | 0x20 => .jsr (word b2 b1)
  | 0x21 => .andIndX b1
  | 0x24 => .bitZp b1
  | 0x25 => .andZp b1
  | 0x26 => .rolZp b1
  | 0x28 => .plp
  | 0x29 => .andImm b1
  | 0x2A => .rolAcc
  | 0x2C => .bitAbs (word b2 b1)
  | 0x2D => .andAbs (word b2 b1)
  | 0x2E => .rolAbs (word b2 b1)
  | 0x30 => .bmi b1
  | 0x31 => .andIndY b1
  | 0x35 => .andZpX b1
  | 0x36 => .rolZpX b1
  | 0x38 => .sec
  | 0x39 => .andAbsY (word b2 b1)
  | 0x3D => .andAbsX (word b2 b1)
  | 0x3E => .rolAbsX (word b2 b1)
  | 0x40 => .rti
  | 0x41 => .eorIndX b1
  | 0x45 => .eorZp b1
  | 0x46 => .lsrZp b1
  | 0x48 => .pha
  | 0x49 => .eorImm b1
  | 0x4A => .lsrAcc
  | 0x4C => .jmpAbs (word b2 b1)
  | 0x4D => .eorAbs (word b2 b1)
  | 0x4E => .lsrAbs (word b2 b1)
  | 0x50 => .bvc b1
  | 0x51 => .eorIndY b1
  | 0x55 => .eorZpX b1
  | 0x56 => .lsrZpX b1
  | 0x58 => .cli
  | 0x59 => .eorAbsY (word b2 b1)
  | 0x5D => .eorAbsX (word b2 b1)
  | 0x5E => .lsrAbsX (word b2 b1)
  | 0x60 => .rts
  | 0x61 => .adcIndX b1
  | 0x65 => .adcZp b1
  | 0x66 => .rorZp b1
  | 0x68 => .pla
  | 0x69 => .adcImm b1
  | 0x6A => .rorAcc
  | 0x6C => .jmpInd (word b2 b1)
  | 0x6D => .adcAbs (word b2 b1)
  | 0x6E => .rorAbs (word b2 b1)
  | 0x70 => .bvs b1
  | 0x71 => .adcIndY b1
  | 0x75 => .adcZpX b1
  | 0x76 => .rorZpX b1
  | 0x78 => .sei
  | 0x79 => .adcAbsY (word b2 b1)
  | 0x7D => .adcAbsX (word b2 b1)
  | 0x7E => .rorAbsX (word b2 b1)
  | 0x81 => .staIndX b1
  | 0x84 => .styZp b1
  | 0x85 => .staZp b1
  | 0x86 => .stxZp b1
  | 0x88 => .dey
  | 0x8A => .txa
  | 0x8C => .styAbs (word b2 b1)
  | 0x8D => .staAbs (word b2 b1)
  | 0x8E => .stxAbs (word b2 b1)
  | 0x90 => .bcc b1
  | 0x91 => .staIndY b1
  | 0x94 => .styZpX b1
  | 0x95 => .staZpX b1
  | 0x96 => .stxZpY b1
  | 0x98 => .tya
  | 0x99 => .staAbsY (word b2 b1)
  | 0x9A => .txs
  | 0x9D => .staAbsX (word b2 b1)
  | 0xA0 => .ldyImm b1
  | 0xA1 => .ldaIndX b1
  | 0xA2 => .ldxImm b1
  | 0xA4 => .ldyZp b1
  | 0xA5 => .ldaZp b1
  | 0xA6 => .ldxZp b1
  | 0xA8 => .tay
  | 0xA9 => .ldaImm b1
  | 0xAA => .tax
  | 0xAC => .ldyAbs (word b2 b1)
  | 0xAD => .ldaAbs (word b2 b1)
  | 0xAE => .ldxAbs (word b2 b1)
  | 0xB0 => .bcs b1
  | 0xB1 => .ldaIndY b1
  | 0xB4 => .ldyZpX b1
  | 0xB5 => .ldaZpX b1
  | 0xB6 => .ldxZpY b1
  | 0xB8 => .clv
  | 0xB9 => .ldaAbsY (word b2 b1)
  | 0xBA => .tsx
  | 0xBC => .ldyAbsX (word b2 b1)
  | 0xBD => .ldaAbsX (word b2 b1)
  | 0xBE => .ldxAbsY (word b2 b1)
  | 0xC0 => .cpyImm b1
  | 0xC1 => .cmpIndX b1
  | 0xC4 => .cpyZp b1
  | 0xC5 => .cmpZp b1
  | 0xC6 => .decZp b1
  | 0xC8 => .iny
  | 0xC9 => .cmpImm b1
  | 0xCA => .dex
  | 0xCC => .cpyAbs (word b2 b1)
  | 0xCD => .cmpAbs (word b2 b1)
  | 0xCE => .decAbs (word b2 b1)
  | 0xD0 => .bne b1
  | 0xD1 => .cmpIndY b1
  | 0xD5 => .cmpZpX b1
  | 0xD6 => .decZpX b1
  | 0xD8 => .cld
  | 0xD9 => .cmpAbsY (word b2 b1)
  | 0xDD => .cmpAbsX (word b2 b1)
  | 0xDE => .decAbsX (word b2 b1)
  | 0xE0 => .cpxImm b1
  | 0xE1 => .sbcIndX b1
  | 0xE4 => .cpxZp b1
  | 0xE5 => .sbcZp b1
  | 0xE6 => .incZp b1
  | 0xE8 => .inx
  | 0xE9 => .sbcImm b1
  | 0xEA => .nop
  | 0xEC => .cpxAbs (word b2 b1)
  | 0xED => .sbcAbs (word b2 b1)
  | 0xEE => .incAbs (word b2 b1)
  | 0xF0 => .beq b1
  | 0xF1 => .sbcIndY b1
  | 0xF5 => .sbcZpX b1
  | 0xF6 => .incZpX b1
  | 0xF8 => .sed
  | 0xF9 => .sbcAbsY (word b2 b1)
  | 0xFD => .sbcAbsX (word b2 b1)
  | 0xFE => .incAbsX (word b2 b1)
  | _ => .unknown op

/-- Why a run of bytes holds no whole instruction. The fetch never meets these: the bus has no end (20_memory.md R66). -/
inductive DecodeError where
  /-- There is no byte to take the opcode from. -/
  | noOpcodeByte
  /-- The bytes end before the opcode's operand does (30_encoding.md R100). -/
  | operandCutShort
  deriving DecidableEq, Repr

/-- The number of operand bytes that follow the opcode byte `op`: the first byte alone fixes it (30_encoding.md R100). -/
def operandLengthOf (op : Byte) : Nat := (decodeBytes op 0 0).row.mode.operandLength

/-- The instruction at the head of a run of bytes and the bytes after it, or why there is none. -/
def decode : List Byte → Except DecodeError (Instr × List Byte)
  | [] => .error .noOpcodeByte
  | op :: rest =>
    match operandLengthOf op, rest with
    | 0, rest => .ok (decodeBytes op 0 0, rest)
    | 1, b1 :: rest => .ok (decodeBytes op b1 0, rest)
    | 2, b1 :: b2 :: rest => .ok (decodeBytes op b1 b2, rest)
    | _, _ => .error .operandCutShort

/-- The operand bytes of an instruction in address order, the low byte of a word first (30_encoding.md R101). -/
def Instr.operandBytes : Instr → List Byte
  | .aslAcc | .brk | .clc | .cld | .cli | .clv | .dex | .dey
  | .inx | .iny | .lsrAcc | .nop | .pha | .php | .pla | .plp
  | .rolAcc | .rorAcc | .rti | .rts | .sec | .sed | .sei | .tax
  | .tay | .tsx | .txa | .txs | .tya | .unknown _ => []
  | .adcIndX b | .adcZp b | .adcImm b | .adcIndY b | .adcZpX b | .andIndX b | .andZp b | .andImm b
  | .andIndY b | .andZpX b | .aslZp b | .aslZpX b | .bcc b | .bcs b | .beq b | .bitZp b
  | .bmi b | .bne b | .bpl b | .bvc b | .bvs b | .cmpIndX b | .cmpZp b | .cmpImm b
  | .cmpIndY b | .cmpZpX b | .cpxImm b | .cpxZp b | .cpyImm b | .cpyZp b | .decZp b | .decZpX b
  | .eorIndX b | .eorZp b | .eorImm b | .eorIndY b | .eorZpX b | .incZp b | .incZpX b | .ldaIndX b
  | .ldaZp b | .ldaImm b | .ldaIndY b | .ldaZpX b | .ldxImm b | .ldxZp b | .ldxZpY b | .ldyImm b
  | .ldyZp b | .ldyZpX b | .lsrZp b | .lsrZpX b | .oraIndX b | .oraZp b | .oraImm b | .oraIndY b
  | .oraZpX b | .rolZp b | .rolZpX b | .rorZp b | .rorZpX b | .sbcIndX b | .sbcZp b | .sbcImm b
  | .sbcIndY b | .sbcZpX b | .staIndX b | .staZp b | .staIndY b | .staZpX b | .stxZp b | .stxZpY b
  | .styZp b | .styZpX b => [b]
  | .adcAbs w | .adcAbsY w | .adcAbsX w | .andAbs w | .andAbsY w | .andAbsX w | .aslAbs w | .aslAbsX w
  | .bitAbs w | .cmpAbs w | .cmpAbsY w | .cmpAbsX w | .cpxAbs w | .cpyAbs w | .decAbs w | .decAbsX w
  | .eorAbs w | .eorAbsY w | .eorAbsX w | .incAbs w | .incAbsX w | .jmpAbs w | .jmpInd w | .jsr w
  | .ldaAbs w | .ldaAbsY w | .ldaAbsX w | .ldxAbs w | .ldxAbsY w | .ldyAbs w | .ldyAbsX w | .lsrAbs w
  | .lsrAbsX w | .oraAbs w | .oraAbsY w | .oraAbsX w | .rolAbs w | .rolAbsX w | .rorAbs w | .rorAbsX w
  | .sbcAbs w | .sbcAbsY w | .sbcAbsX w | .staAbs w | .staAbsY w | .staAbsX w | .stxAbs w | .styAbs w => [lo w, hi w]

/-- The bytes of an instruction: its opcode byte, then its operand bytes (30_encoding.md R100, R101). -/
def encode (i : Instr) : List Byte := i.row.opcode :: i.operandBytes

/-- Byte `k` of the first `nbits` bits of `w`, bit 0 of `w` being bit 0 of byte 0; 0 above `nbits`. -/
def tableByte (nbits w k : Nat) : Byte := BitVec.ofNat 8 ((w % 2 ^ nbits) >>> (8 * k))

/-- The instruction the decoder reads from the word `w` of a row of opcode_table.json, the bytes laid out in address order
and zeros after the row's bits (30_encoding.md R101). -/
def decodeTableWord (nbits w : Nat) : Option Instr :=
  match decode [tableByte nbits w 0, tableByte nbits w 1, tableByte nbits w 2] with
  | .ok (i, _) => some i
  | .error _ => none

end Sys2Proof
end

