-- ==== Sys2Proof/Machine/Memory.lean ====
section
/-! DEFINITION. Stores of cells by number, and the bus (spec/20_memory.md).

A store is a list of (number, value) pairs in one canonical form: numbers strictly rising, and no entry equal to what an
unlisted cell reads as. So equal stores are equal lists (notes/assumptions/11.md). The bus is a store of bytes by address;
the slots of the ring buffer (60_exceptions.md R383) are a store of samples by slot. -/

namespace Sys2Proof.Machine

/-- What cell `k` of the store `l` holds; an unlisted cell holds `d`. -/
def Store.get {β : Type} (d : β) : List (Nat × β) → Nat → β
  | [], _ => d
  | (j, v) :: l, k => if k < j then d else if k = j then v else Store.get d l k

/-- The entry of a cell that holds `v`: none when `v` is what an unlisted cell reads as. -/
def Store.entry {β : Type} [DecidableEq β] (d : β) (k : Nat) (v : β) : List (Nat × β) :=
  if v = d then [] else [(k, v)]

/-- The store `l` with `v` in cell `k`, the canonical form kept. -/
def Store.set {β : Type} [DecidableEq β] (d : β) : List (Nat × β) → Nat → β → List (Nat × β)
  | [], k, v => Store.entry d k v
  | (j, u) :: l, k, v =>
    if k < j then Store.entry d k v ++ (j, u) :: l
    else if k = j then Store.entry d k v ++ l
    else (j, u) :: Store.set d l k v

/-- Every entry is at a number at or above `b` and below `n`, the numbers rise strictly, and no value is `d`. -/
def Store.wfFrom {β : Type} [DecidableEq β] (d : β) (n : Nat) : Nat → List (Nat × β) → Bool
  | _, [] => true
  | b, (j, v) :: l => decide (b ≤ j) && decide (j < n) && decide (v ≠ d) && Store.wfFrom d n (j + 1) l

/-- The canonical form of a store of `n` cells. -/
def Store.wf {β : Type} [DecidableEq β] (d : β) (n : Nat) (l : List (Nat × β)) : Bool := Store.wfFrom d n 0 l

/-- The bus: 65,536 bytes (20_memory.md R60), the listed ones as (address, byte). -/
abbrev Memory := List Host.Cell

/-- What a byte of the bus that is not listed reads as: the executable default of `BUS_INIT` (00_scope.md R8, 70_reset_and_hazards.md
R434). DESIGN CHOICE, unsafe (notes/assumptions/3.md). A bus with other initial contents lists them. -/
def Memory.unlisted : Byte := 0

/-- `ReadByte(addr)`, `MemRead(addr, 1)` (20_memory.md R61, R64): every address is readable. -/
def Memory.read (m : Memory) (a : Word) : Byte := Store.get Memory.unlisted m a.toNat

/-- `Write(addr, [v])`, `MemWrite(addr, 1, v)` (20_memory.md R61, R64): every address is writable, and nothing else changes. -/
def Memory.write (m : Memory) (a : Word) (v : Byte) : Memory := Store.set Memory.unlisted m a.toNat v

/-- `ReadWord(addr)`: the low byte at `addr`, the high byte at `(addr + 1) mod 65536` (20_memory.md R62, R65). -/
def Memory.readWord (m : Memory) (a : Word) : Word := word (m.read (a + 1)) (m.read a)

/-- A block read of `n` bytes from `addr`, wrapping modulo 65,536 (20_memory.md R63). -/
def Memory.readBlock (m : Memory) (a : Word) : Nat → List Byte
  | 0 => []
  | n + 1 => m.read a :: Memory.readBlock m (a + 1) n

/-- `Write(addr, bytes)`: byte `i` at `(addr + i) mod 65536`, in increasing `i` (20_memory.md R63). -/
def Memory.writeBlock (m : Memory) (a : Word) : List Byte → Memory
  | [] => m
  | v :: vs => Memory.writeBlock (m.write a v) (a + 1) vs

/-- The canonical form of the bus: addresses below 65,536 and strictly rising, no entry equal to an unlisted byte. -/
def Memory.wf (m : Memory) : Bool := Store.wf Memory.unlisted 65536 m

end Sys2Proof.Machine
end

