-- ==== Sys2Proof/Machine/State.lean ====
section
/-! DEFINITION. The state of the block as plain data (spec/10_state.md), the ways a step can stop, and reset.

The record is grouped as 10_state.md groups it: the CPU register file (R20), the bus (R38), the NMI request (R33), the video
timing unit (R34), the audio unit (R35), the ring buffer (R36), the scheduler (R37), the launch parameters (00_scope.md R8).
`cycles`, `callback` and `agenda` are the model's own: INVENTORY.md lists them and says why. -/

namespace Sys2Proof.Machine

/-- The six stored flags of P (10_state.md R25). Bits 5 and 4 of P are not stored. -/
structure Flags where
  n : Bool
  v : Bool
  d : Bool
  i : Bool
  z : Bool
  c : Bool
  deriving DecidableEq, Repr

/-- The CPU register file: exactly A, X, Y, P, PC and SP (10_state.md R20). -/
@[ext] structure Cpu where
  a : Byte
  x : Byte
  y : Byte
  sp : Byte
  pc : Word
  p : Flags
  deriving DecidableEq, Repr

/-- The states of the video timing unit (10_state.md R34, 60_exceptions.md R363). -/
inductive VState where
  | visible
  | vblankActive
  | vblankDone
  deriving DecidableEq, Repr

/-- The video timing unit (10_state.md R34). -/
structure Video where
  ppuCycle : Nat
  scanline : Nat
  vstate : VState
  vblankActive : Bool
  deriving DecidableEq, Repr

/-- The audio unit (10_state.md R35); `staging` holds its oldest sample first. -/
structure Audio where
  apuCycles : Nat
  samplesMade : Nat
  staging : List Sample
  deriving DecidableEq, Repr

/-- The ring buffer (10_state.md R36): the slots as a store in which an unlisted slot holds 0, and the two cursors. -/
structure Ring where
  slots : List (Nat × Sample)
  wcur : Nat
  rcur : Nat
  deriving DecidableEq, Repr

/-- The scheduler's counters (10_state.md R37). -/
structure Sched where
  totalCycles : Nat
  tickCount : Nat
  deriving DecidableEq, Repr

/-- A `Pull(K)` in progress on the audio callback agent (60_exceptions.md R384): the model's own record of a transfer that
R395 lets ticks interleave with (notes/assumptions/7.md). -/
structure Pull where
  /-- `K`, the bytes asked for. -/
  bytes : Nat
  /-- `n`, the samples the copy loop reads. -/
  count : Nat
  /-- `out[0], out[1], …`: the samples read so far, in order. -/
  got : List Sample
  deriving DecidableEq, Repr

/-- A write of the emulation agent to what it shares with the callback agent (20_memory.md R75), as what it replaced: a slot and
the sample it held, or the published write cursor. -/
inductive Replaced where
  | slot (k : Nat) (old : Sample)
  | wcur (old : Nat)
  deriving DecidableEq, Repr

/-- The audio callback agent (60_exceptions.md R395): the Pull in progress, the bytes the last finished one returned, and the
writes to the ring of the tick last run that the agent's next access may still come before, the latest write first
(notes/assumptions/8.md). -/
structure Callback where
  pull : Option Pull
  returned : List Byte
  unseen : List Replaced
  deriving DecidableEq, Repr

/-- One turn of one agent (00_scope.md R14, 60_exceptions.md R395). A turn of the callback agent names its `lag`: it comes before
the latest `lag` of the writes to the ring of the tick last run, so it may fall anywhere inside that tick's flushes. -/
inductive Turn where
  /-- The emulation agent runs one tick (R341). -/
  | emulation
  /-- The device asks the callback agent for this many bytes: `Pull` begins (R384). -/
  | call (bytes lag : Nat)
  /-- The Pull in progress goes on: it reads its next slot or, when all are read, publishes `rcur` and returns. -/
  | advance (lag : Nat)
  deriving DecidableEq, Repr

/-- Everything the spec gives the machine (10_state.md), and the model's own `cycles`, `callback` and `agenda`. -/
structure State where
  /-- The CPU register file (R20). -/
  cpu : Cpu
  /-- The bus (R38). -/
  bus : Memory
  /-- The NMI request (R33). -/
  nmiRequest : Bool
  /-- The video timing unit (R34). -/
  video : Video
  /-- The audio unit (R35). -/
  audio : Audio
  /-- The ring buffer (R36). -/
  ring : Ring
  /-- The scheduler (R37). -/
  sched : Sched
  /-- The count the last CPU step or interrupt entry returned (40_execute_cycle.md R147, 60_exceptions.md R330). -/
  cycles : Nat
  /-- The launch parameters (00_scope.md R8). -/
  config : Config
  /-- The audio callback agent (60_exceptions.md R395). -/
  callback : Callback
  /-- Whose turn comes next, first turn first; when empty, the emulation agent's (60_exceptions.md R395). -/
  agenda : List Turn
  deriving DecidableEq, Repr

/-- How the machine can stop with a fault: in no way. The step "never faults, halts or blocks" (40_execute_cycle.md R140), and
no instruction raises an exception (00_scope.md R12), so the type has no constructor (notes/assumptions/20.md). Safe. -/
inductive Fault where
  deriving DecidableEq, Repr

/-- Why an instruction has no meaning in the model. -/
inductive Refusal where
  /-- Raised by `exec` alone, for an instruction the model does not cover yet; no instruction is in this case. Safe. -/
  | notModelled (mnemonic : String)
  deriving DecidableEq, Repr

/-- What a step of the machine answers. -/
abbrev Result := Host.Outcome State Fault Refusal

/-- The Reset vector (20_memory.md R71, 60_exceptions.md R320). -/
def resetVector : Word := 0xFFFC

/-- `Reset()` on a bus that holds its initial contents, the loader's image among them (70_reset_and_hazards.md R420): every piece
of state at its value in 10_state.md R39, PC from the Reset vector. Nothing is pushed and no cycle is fed. -/
def State.launch (g : Config) (bus : Memory) : State where
  cpu :=
    { a := g.resetA, x := g.resetX, y := g.resetY, sp := 0xFD, pc := bus.readWord resetVector
      p := { n := g.resetN, v := g.resetV, d := g.resetD, i := true, z := g.resetZ, c := g.resetC } }
  bus := bus
  nmiRequest := false
  video := { ppuCycle := 0, scanline := 0, vstate := .visible, vblankActive := false }
  audio := { apuCycles := 0, samplesMade := 0, staging := [] }
  ring := { slots := [], wcur := 0, rcur := 0 }
  sched := { totalCycles := 0, tickCount := 0 }
  cycles := 0
  config := g
  callback := { pull := none, returned := [], unseen := [] }
  agenda := []

/-- The machine right after reset: `State.launch` with every open parameter at its executable default (00_scope.md R8), no byte of
the bus listed (notes/assumptions/1.md, 2.md, 3.md). A loaded program is `State.launch` on the loader's bus. -/
def State.reset : State := State.launch {} []

end Sys2Proof.Machine
end

