-- ==== Sys2Proof/Machine/Flags.lean ====
section
/-! DEFINITION. The status byte and every flag computation the spec gives: packing and unpacking P (spec/10_state.md R26, R27),
`SetNZ` (40_execute_cycle.md R149), `AddWithCarry` (42_arith_logic.md R200), `Compare` (R206), the bit test (R210), and the
shift and rotate results with their carry out (43_shift_incdec.md R231 to R234). -/

namespace Sys2Proof.Machine

/-- A flag as the bit it is written as, 0 or 1 (00_scope.md R10). -/
def bit (b : Bool) : Byte := if b then 1 else 0

/-- `PackP(b)`: `N<<7 | V<<6 | 1<<5 | b<<4 | D<<3 | I<<2 | Z<<1 | C` (10_state.md R26). -/
def packP (b : Bool) (p : Flags) : Byte :=
  bit p.n <<< 7 ||| bit p.v <<< 6 ||| 1 <<< 5 ||| bit b <<< 4 ||| bit p.d <<< 3 ||| bit p.i <<< 2 ||| bit p.z <<< 1 |||
    bit p.c

/-- `UnpackP(v)`: the six flags from their bits; bits 5 and 4 are ignored (10_state.md R27). -/
def unpackP (v : Byte) : Flags :=
  { n := v.getLsbD 7, v := v.getLsbD 6, d := v.getLsbD 3, i := v.getLsbD 2, z := v.getLsbD 1, c := v.getLsbD 0 }

/-- `SetNZ(v)`: Z iff v is 0, N is bit 7 of v (40_execute_cycle.md R149). -/
def setNZ (v : Byte) (p : Flags) : Flags := { p with z := v == 0, n := v.getLsbD 7 }

/-- What `AddWithCarry` yields: the result byte, the carry out and the overflow (42_arith_logic.md R200). -/
structure Sum where
  result : Byte
  carry : Bool
  ovf : Bool
  deriving DecidableEq, Repr

/-- `AddWithCarry(a, m, c)` (42_arith_logic.md R200): the integer sum `t`, then its three readings. -/
def addWithCarry (a m : Byte) (c : Bool) : Sum :=
  let t := a.toNat + m.toNat + c.toNat
  let r := BitVec.ofNat 8 t
  { result := r, carry := decide (t > 255), ovf := ((a ^^^ r) &&& (m ^^^ r) &&& 0x80) != 0 }

/-- The flags after ADC and SBC: C, V, Z and N from the sum (42_arith_logic.md R201, R202). -/
def sumFlags (t : Sum) (p : Flags) : Flags := setNZ t.result { p with c := t.carry, v := t.ovf }

/-- `Compare(r, m)`: C iff r ≥ m unsigned, then `SetNZ` of the difference; V is not written (42_arith_logic.md R206). -/
def compareFlags (r m : Byte) (p : Flags) : Flags := setNZ (r - m) { p with c := decide (r.toNat ≥ m.toNat) }

/-- BIT: Z from `A & M`, N and V from bits 7 and 6 of M itself (42_arith_logic.md R210). -/
def bitFlags (a m : Byte) (p : Flags) : Flags :=
  { p with z := (a &&& m) == 0, n := m.getLsbD 7, v := m.getLsbD 6 }

/-- The result of a shift or rotate: the byte written back and the bit shifted out into C. -/
structure Shifted where
  result : Byte
  carry : Bool
  deriving DecidableEq, Repr

/-- ASL: bit 7 goes to C, 0 comes in (43_shift_incdec.md R231). The carry in is not used. -/
def aslByte (v : Byte) (_ : Bool) : Shifted := { result := v <<< 1, carry := v.getLsbD 7 }

/-- LSR: bit 0 goes to C, 0 comes in (43_shift_incdec.md R232). The carry in is not used. -/
def lsrByte (v : Byte) (_ : Bool) : Shifted := { result := v >>> 1, carry := v.getLsbD 0 }

/-- ROL: bit 7 goes to C, the old C comes in at bit 0 (43_shift_incdec.md R233). -/
def rolByte (v : Byte) (c0 : Bool) : Shifted := { result := v <<< 1 ||| bit c0, carry := v.getLsbD 7 }

/-- ROR: bit 0 goes to C, the old C comes in at bit 7 (43_shift_incdec.md R234). -/
def rorByte (v : Byte) (c0 : Bool) : Shifted := { result := v >>> 1 ||| bit c0 <<< 7, carry := v.getLsbD 0 }

/-- The flags after a shift or rotate: C the bit shifted out, then `SetNZ` of the result (43_shift_incdec.md R231 to R234). -/
def shiftFlags (t : Shifted) (p : Flags) : Flags := setNZ t.result { p with c := t.carry }

end Sys2Proof.Machine
end

