-- ==== Sys2Proof/Machine/Ops.lean ====
section
/-! DEFINITION. The named operations over registers, bus and stack that every meaning uses, the pc update and cycle report
of a step (spec/40_execute_cycle.md R146, R147), interrupt entry as one operation (60_exceptions.md R330, R331 and
44_control_flow.md R264) and the return from it beside it (R263), and the fetch (40_execute_cycle.md R141). -/

namespace Sys2Proof.Machine

/-- The registers an instruction rule names as `x[r]` (00_scope.md R10). -/
inductive Reg where
  | A
  | X
  | Y
  | SP
  deriving DecidableEq, Repr

/-- `x[r]` (00_scope.md R10). -/
def State.reg (s : State) : Reg → Byte
  | .A => s.cpu.a
  | .X => s.cpu.x
  | .Y => s.cpu.y
  | .SP => s.cpu.sp

/-- `x[r] <- v` (00_scope.md R10). -/
def State.setReg (s : State) (r : Reg) (v : Byte) : State :=
  match r with
  | .A => { s with cpu := { s.cpu with a := v } }
  | .X => { s with cpu := { s.cpu with x := v } }
  | .Y => { s with cpu := { s.cpu with y := v } }
  | .SP => { s with cpu := { s.cpu with sp := v } }

/-- P replaced by `p`. -/
def State.setP (s : State) (p : Flags) : State := { s with cpu := { s.cpu with p := p } }

/-- P changed by `f`: what an instruction that writes flags does to them. -/
def State.updP (s : State) (f : Flags → Flags) : State := s.setP (f s.cpu.p)

/-- `MemRead(a, 1)` (00_scope.md R11). -/
def State.read (s : State) (a : Word) : Byte := s.bus.read a

/-- `MemRead(a, 2)` (00_scope.md R11). -/
def State.readWord (s : State) (a : Word) : Word := s.bus.readWord a

/-- `MemWrite(a, 1, v)` (00_scope.md R11). -/
def State.write (s : State) (a : Word) (v : Byte) : State := { s with bus := s.bus.write a v }

/-- `pc <- t`, with the cycle count the step reports. -/
def State.setPc (s : State) (t : Word) (c : Nat) : State := { s with cpu := { s.cpu with pc := t }, cycles := c }

/-- `0x0100 + sp`: the address of a byte of the stack page (10_state.md R23). -/
def stackAddr (sp : Byte) : Word := 0x0100 + sp.setWidth 16

/-- `Push(v)`: write at `0x0100 + SP`, then decrement SP, wrapping (40_execute_cycle.md R150). -/
def push (v : Byte) (s : State) : State := (s.write (stackAddr s.cpu.sp) v).setReg .SP (s.cpu.sp - 1)

/-- What a pull leaves: the value pulled and the state after it. -/
structure Pulled (β : Type) where
  value : β
  state : State
  deriving Repr

/-- `Pop()`: increment SP, wrapping, then read at `0x0100 + SP`; the byte stays (40_execute_cycle.md R151). -/
def pop (s : State) : Pulled Byte :=
  { value := s.read (stackAddr (s.cpu.sp + 1)), state := s.setReg .SP (s.cpu.sp + 1) }

/-- `PushWord(w)`: high byte first (40_execute_cycle.md R152). -/
def pushWord (w : Word) (s : State) : State := push (lo w) (push (hi w) s)

/-- `PopWord()`: low byte first (40_execute_cycle.md R152). -/
def popWord (s : State) : Pulled Word :=
  let l := pop s
  let h := pop l.state
  { value := word h.value l.value, state := h.state }

/-- The cycle count of a step (40_execute_cycle.md R147): the row's base cost (for an unknown opcode `UNKNOWN_OPCODE_CYCLES`, R144),
one more when the row is marked for it and a page was crossed (R148), and the extra of a taken branch (44_control_flow.md R265). -/
def cycleCost (g : Config) (row : Row) (crossed : Bool) (branchExtra : Nat) : Nat :=
  row.cycles.getD g.unknownOpcodeCycles + (if row.pagePenalty && crossed then 1 else 0) + branchExtra

/-- The end of a step with no redirect: the pc moves past the opcode byte and its operand (40_execute_cycle.md R146). -/
def advance (row : Row) (crossed : Bool) (s : State) : State :=
  s.setPc (s.cpu.pc + BitVec.ofNat 16 (1 + row.mode.operandLength)) (cycleCost s.config row crossed 0)

/-- The end of a step whose operation redirects: its target is the pc (40_execute_cycle.md R146). -/
def redirect (row : Row) (t : Word) (branchExtra : Nat) (s : State) : State :=
  s.setPc t (cycleCost s.config row false branchExtra)

/-- The NMI vector (20_memory.md R71). -/
def nmiVector : Word := 0xFFFA

/-- The IRQ/BRK vector (20_memory.md R71). -/
def irqVector : Word := 0xFFFE

/-- `NMI_ENTRY_CYCLES` (00_scope.md R7). -/
def entryCycles : Nat := 7

/-- Interrupt entry, one operation for NMI, IRQ and BRK: push the return address, push the status with B as given, set P.I, and read
the new pc at the vector; `c` is the count reported (60_exceptions.md R330, R331, 44_control_flow.md R264). -/
def enter (ret : Word) (b : Bool) (vector : Word) (c : Nat) (s : State) : State :=
  let pushed := push (packP b s.cpu.p) (pushWord ret s)
  (pushed.updP fun p => { p with i := true }).setPc (pushed.readWord vector) c

/-- `NmiEntry()` (60_exceptions.md R330). -/
def nmiEntry (s : State) : State := enter s.cpu.pc false nmiVector entryCycles s

/-- IRQ entry: NMI entry with the vector at 0xFFFE (60_exceptions.md R331). -/
def irqEntry (s : State) : State := enter s.cpu.pc false irqVector entryCycles s

/-- The return from an interrupt: the status is pulled first, then the return address, which is not incremented
(44_control_flow.md R263, 60_exceptions.md R333). The address is the value, for the redirect. -/
def pullFrame (s : State) : Pulled Word :=
  let p := pop s
  popWord (p.state.setP (unpackP p.value))

/-- The instruction at the pc: the opcode byte at `pc0`, the operand bytes at `pc0 + 1` and `pc0 + 2`, each modulo 65,536, as the
bus is at that moment (40_execute_cycle.md R141, 20_memory.md R66, R77). -/
def fetch (s : State) : Instr :=
  decodeBytes (s.read s.cpu.pc) (s.read (s.cpu.pc + 1)) (s.read (s.cpu.pc + 2))

end Sys2Proof.Machine
end

