-- ==== Sys2Proof/Machine/Operands.lean ====
section
/-! DEFINITION. The operand forms: how each addressing mode resolves its effective address, page crossing and operand value
(spec/30_encoding.md R103 to R113). -/

namespace Sys2Proof.Machine

/-- `zext_16(b)` (00_scope.md R9). -/
def zext16 (b : Byte) : Word := b.setWidth 16

/-- `sext_16(b)` (00_scope.md R9). -/
def sext16 (b : Byte) : Word := b.signExtend 16

/-- An operand in one of the modes that yield an effective address, with its decoded operand (30_encoding.md R104 to R111). -/
inductive Operand where
  | immediate (i : Byte)
  | zeroPage (z : Byte)
  | zeroPageX (z : Byte)
  | zeroPageY (z : Byte)
  | absolute (w : Word)
  | absoluteX (w : Word)
  | absoluteY (w : Word)
  | indirectX (z : Byte)
  | indirectY (z : Byte)
  | indirect (w : Word)
  deriving DecidableEq, Repr

/-- The 16-bit pointer at a zero-page location, both of its bytes in page 0 (30_encoding.md R109, R110). -/
def zeroPagePointer (s : State) (p : Byte) : Word := word (s.read (zext16 (p + 1))) (s.read (zext16 p))

/-- `EA` (30_encoding.md R104 to R111); every sum wraps, zero-page sums in page 0 and 16-bit sums modulo 65,536. -/
def ea (o : Operand) (s : State) : Word :=
  match o with
  | .immediate _ => s.cpu.pc + 1
  | .zeroPage z => zext16 z
  | .zeroPageX z => zext16 (z + s.cpu.x)
  | .zeroPageY z => zext16 (z + s.cpu.y)
  | .absolute w => w
  | .absoluteX w => w + zext16 s.cpu.x
  | .absoluteY w => w + zext16 s.cpu.y
  | .indirectX z => zeroPagePointer s (z + s.cpu.x)
  | .indirectY z => zeroPagePointer s z + zext16 s.cpu.y
  | .indirect w => s.readWord w

/-- `crossed`: the un-indexed base and `EA` are on different pages; only in the modes AbsoluteX, AbsoluteY and IndirectY
(30_encoding.md R108, R110, 40_execute_cycle.md R148). -/
def crossed (o : Operand) (s : State) : Bool :=
  match o with
  | .absoluteX w | .absoluteY w => hi w != hi (ea o s)
  | .indirectY z => hi (zeroPagePointer s z) != hi (ea o s)
  | .immediate _ | .zeroPage _ | .zeroPageX _ | .zeroPageY _ | .absolute _ | .indirectX _ | .indirect _ => false

/-- The operand value `M` (30_encoding.md R113). An immediate is used directly (R104): it is the operand byte the step fetched
(notes/assumptions/14.md). -/
def value (o : Operand) (s : State) : Byte :=
  match o with
  | .immediate i => i
  | .zeroPage _ | .zeroPageX _ | .zeroPageY _ | .absolute _ | .absoluteX _ | .absoluteY _ | .indirectX _ | .indirectY _
  | .indirect _ => s.read (ea o s)

/-- The target of a branch: the next instruction's address plus the signed offset (30_encoding.md R112). -/
def branchTarget (r : Byte) (s : State) : Word := s.cpu.pc + 2 + sext16 r

end Sys2Proof.Machine
end

