-- ==== Sys2Proof/Machine/Arith.lean ====
section
/-! DEFINITION. Arithmetic, logic, compare and bit test (spec/42_arith_logic.md). P.D plays no part (10_state.md R29). -/

namespace Sys2Proof.Machine

/-- A takes the sum, and C, V, Z and N follow it (42_arith_logic.md R201, R202). -/
def takeSum (t : Sum) (s : State) : State := (s.setReg .A t.result).updP (sumFlags t)

/-- ADC: A plus M plus C (42_arith_logic.md R201). -/
def adc (row : Row) (o : Operand) (s : State) : State :=
  advance row (crossed o s) (takeSum (addWithCarry s.cpu.a (value o s) s.cpu.p.c) s)

/-- SBC: the same sum with M complemented (42_arith_logic.md R202). -/
def sbc (row : Row) (o : Operand) (s : State) : State :=
  advance row (crossed o s) (takeSum (addWithCarry s.cpu.a (value o s ^^^ 0xFF) s.cpu.p.c) s)

/-- AND, ORA and EOR: `x[A] <- f(x[A], M); SetNZ(x[A])` (42_arith_logic.md R203 to R205). -/
def logic (f : Byte → Byte → Byte) (row : Row) (o : Operand) (s : State) : State :=
  let r := f s.cpu.a (value o s)
  advance row (crossed o s) ((s.setReg .A r).updP (setNZ r))

/-- CMP, CPX and CPY: `Compare(x[r], M)`, no register written (42_arith_logic.md R206 to R209). -/
def compareReg (r : Reg) (row : Row) (o : Operand) (s : State) : State :=
  advance row (crossed o s) (s.updP (compareFlags (s.reg r) (value o s)))

/-- BIT: flags only (42_arith_logic.md R210). -/
def bitTest (row : Row) (o : Operand) (s : State) : State :=
  advance row (crossed o s) (s.updP (bitFlags s.cpu.a (value o s)))

/-- ADC IndirectX, 0x61, 6 cycles: add with carry (R201). -/
def execAdcIndX (z : Byte) (s : State) : Result := .next (adc (Instr.adcIndX z).row (.indirectX z) s)

/-- ADC ZeroPage, 0x65, 3 cycles: add with carry (R201). -/
def execAdcZp (z : Byte) (s : State) : Result := .next (adc (Instr.adcZp z).row (.zeroPage z) s)

/-- ADC Immediate, 0x69, 2 cycles: add with carry (R201). -/
def execAdcImm (i : Byte) (s : State) : Result := .next (adc (Instr.adcImm i).row (.immediate i) s)

/-- ADC Absolute, 0x6D, 4 cycles: add with carry (R201). -/
def execAdcAbs (w : Word) (s : State) : Result := .next (adc (Instr.adcAbs w).row (.absolute w) s)

/-- ADC IndirectY, 0x71, 5 cycles +1 if page crossed: add with carry (R201). -/
def execAdcIndY (z : Byte) (s : State) : Result := .next (adc (Instr.adcIndY z).row (.indirectY z) s)

/-- ADC ZeroPageX, 0x75, 4 cycles: add with carry (R201). -/
def execAdcZpX (z : Byte) (s : State) : Result := .next (adc (Instr.adcZpX z).row (.zeroPageX z) s)

/-- ADC AbsoluteY, 0x79, 4 cycles +1 if page crossed: add with carry (R201). -/
def execAdcAbsY (w : Word) (s : State) : Result := .next (adc (Instr.adcAbsY w).row (.absoluteY w) s)

/-- ADC AbsoluteX, 0x7D, 4 cycles +1 if page crossed: add with carry (R201). -/
def execAdcAbsX (w : Word) (s : State) : Result := .next (adc (Instr.adcAbsX w).row (.absoluteX w) s)

/-- SBC IndirectX, 0xE1, 6 cycles: subtract with borrow (R202). -/
def execSbcIndX (z : Byte) (s : State) : Result := .next (sbc (Instr.sbcIndX z).row (.indirectX z) s)

/-- SBC ZeroPage, 0xE5, 3 cycles: subtract with borrow (R202). -/
def execSbcZp (z : Byte) (s : State) : Result := .next (sbc (Instr.sbcZp z).row (.zeroPage z) s)

/-- SBC Immediate, 0xE9, 2 cycles: subtract with borrow (R202). -/
def execSbcImm (i : Byte) (s : State) : Result := .next (sbc (Instr.sbcImm i).row (.immediate i) s)

/-- SBC Absolute, 0xED, 4 cycles: subtract with borrow (R202). -/
def execSbcAbs (w : Word) (s : State) : Result := .next (sbc (Instr.sbcAbs w).row (.absolute w) s)

/-- SBC IndirectY, 0xF1, 5 cycles +1 if page crossed: subtract with borrow (R202). -/
def execSbcIndY (z : Byte) (s : State) : Result := .next (sbc (Instr.sbcIndY z).row (.indirectY z) s)

/-- SBC ZeroPageX, 0xF5, 4 cycles: subtract with borrow (R202). -/
def execSbcZpX (z : Byte) (s : State) : Result := .next (sbc (Instr.sbcZpX z).row (.zeroPageX z) s)

/-- SBC AbsoluteY, 0xF9, 4 cycles +1 if page crossed: subtract with borrow (R202). -/
def execSbcAbsY (w : Word) (s : State) : Result := .next (sbc (Instr.sbcAbsY w).row (.absoluteY w) s)

/-- SBC AbsoluteX, 0xFD, 4 cycles +1 if page crossed: subtract with borrow (R202). -/
def execSbcAbsX (w : Word) (s : State) : Result := .next (sbc (Instr.sbcAbsX w).row (.absoluteX w) s)

/-- AND IndirectX, 0x21, 6 cycles: A and M (R203). -/
def execAndIndX (z : Byte) (s : State) : Result := .next (logic (· &&& ·) (Instr.andIndX z).row (.indirectX z) s)

/-- AND ZeroPage, 0x25, 3 cycles: A and M (R203). -/
def execAndZp (z : Byte) (s : State) : Result := .next (logic (· &&& ·) (Instr.andZp z).row (.zeroPage z) s)

/-- AND Immediate, 0x29, 2 cycles: A and M (R203). -/
def execAndImm (i : Byte) (s : State) : Result := .next (logic (· &&& ·) (Instr.andImm i).row (.immediate i) s)

/-- AND Absolute, 0x2D, 4 cycles: A and M (R203). -/
def execAndAbs (w : Word) (s : State) : Result := .next (logic (· &&& ·) (Instr.andAbs w).row (.absolute w) s)

/-- AND IndirectY, 0x31, 5 cycles +1 if page crossed: A and M (R203). -/
def execAndIndY (z : Byte) (s : State) : Result := .next (logic (· &&& ·) (Instr.andIndY z).row (.indirectY z) s)

/-- AND ZeroPageX, 0x35, 4 cycles: A and M (R203). -/
def execAndZpX (z : Byte) (s : State) : Result := .next (logic (· &&& ·) (Instr.andZpX z).row (.zeroPageX z) s)

/-- AND AbsoluteY, 0x39, 4 cycles +1 if page crossed: A and M (R203). -/
def execAndAbsY (w : Word) (s : State) : Result := .next (logic (· &&& ·) (Instr.andAbsY w).row (.absoluteY w) s)

/-- AND AbsoluteX, 0x3D, 4 cycles +1 if page crossed: A and M (R203). -/
def execAndAbsX (w : Word) (s : State) : Result := .next (logic (· &&& ·) (Instr.andAbsX w).row (.absoluteX w) s)

/-- ORA IndirectX, 0x01, 6 cycles: A or M (R204). -/
def execOraIndX (z : Byte) (s : State) : Result := .next (logic (· ||| ·) (Instr.oraIndX z).row (.indirectX z) s)

/-- ORA ZeroPage, 0x05, 3 cycles: A or M (R204). -/
def execOraZp (z : Byte) (s : State) : Result := .next (logic (· ||| ·) (Instr.oraZp z).row (.zeroPage z) s)

/-- ORA Immediate, 0x09, 2 cycles: A or M (R204). -/
def execOraImm (i : Byte) (s : State) : Result := .next (logic (· ||| ·) (Instr.oraImm i).row (.immediate i) s)

/-- ORA Absolute, 0x0D, 4 cycles: A or M (R204). -/
def execOraAbs (w : Word) (s : State) : Result := .next (logic (· ||| ·) (Instr.oraAbs w).row (.absolute w) s)

/-- ORA IndirectY, 0x11, 5 cycles +1 if page crossed: A or M (R204). -/
def execOraIndY (z : Byte) (s : State) : Result := .next (logic (· ||| ·) (Instr.oraIndY z).row (.indirectY z) s)

/-- ORA ZeroPageX, 0x15, 4 cycles: A or M (R204). -/
def execOraZpX (z : Byte) (s : State) : Result := .next (logic (· ||| ·) (Instr.oraZpX z).row (.zeroPageX z) s)

/-- ORA AbsoluteY, 0x19, 4 cycles +1 if page crossed: A or M (R204). -/
def execOraAbsY (w : Word) (s : State) : Result := .next (logic (· ||| ·) (Instr.oraAbsY w).row (.absoluteY w) s)

/-- ORA AbsoluteX, 0x1D, 4 cycles +1 if page crossed: A or M (R204). -/
def execOraAbsX (w : Word) (s : State) : Result := .next (logic (· ||| ·) (Instr.oraAbsX w).row (.absoluteX w) s)

/-- EOR IndirectX, 0x41, 6 cycles: A exclusive or M (R205). -/
def execEorIndX (z : Byte) (s : State) : Result := .next (logic (· ^^^ ·) (Instr.eorIndX z).row (.indirectX z) s)

/-- EOR ZeroPage, 0x45, 3 cycles: A exclusive or M (R205). -/
def execEorZp (z : Byte) (s : State) : Result := .next (logic (· ^^^ ·) (Instr.eorZp z).row (.zeroPage z) s)

/-- EOR Immediate, 0x49, 2 cycles: A exclusive or M (R205). -/
def execEorImm (i : Byte) (s : State) : Result := .next (logic (· ^^^ ·) (Instr.eorImm i).row (.immediate i) s)

/-- EOR Absolute, 0x4D, 4 cycles: A exclusive or M (R205). -/
def execEorAbs (w : Word) (s : State) : Result := .next (logic (· ^^^ ·) (Instr.eorAbs w).row (.absolute w) s)

/-- EOR IndirectY, 0x51, 5 cycles +1 if page crossed: A exclusive or M (R205). -/
def execEorIndY (z : Byte) (s : State) : Result := .next (logic (· ^^^ ·) (Instr.eorIndY z).row (.indirectY z) s)

/-- EOR ZeroPageX, 0x55, 4 cycles: A exclusive or M (R205). -/
def execEorZpX (z : Byte) (s : State) : Result := .next (logic (· ^^^ ·) (Instr.eorZpX z).row (.zeroPageX z) s)

/-- EOR AbsoluteY, 0x59, 4 cycles +1 if page crossed: A exclusive or M (R205). -/
def execEorAbsY (w : Word) (s : State) : Result := .next (logic (· ^^^ ·) (Instr.eorAbsY w).row (.absoluteY w) s)

/-- EOR AbsoluteX, 0x5D, 4 cycles +1 if page crossed: A exclusive or M (R205). -/
def execEorAbsX (w : Word) (s : State) : Result := .next (logic (· ^^^ ·) (Instr.eorAbsX w).row (.absoluteX w) s)

/-- CMP IndirectX, 0xC1, 6 cycles: compare A (R207). -/
def execCmpIndX (z : Byte) (s : State) : Result := .next (compareReg .A (Instr.cmpIndX z).row (.indirectX z) s)

/-- CMP ZeroPage, 0xC5, 3 cycles: compare A (R207). -/
def execCmpZp (z : Byte) (s : State) : Result := .next (compareReg .A (Instr.cmpZp z).row (.zeroPage z) s)

/-- CMP Immediate, 0xC9, 2 cycles: compare A (R207). -/
def execCmpImm (i : Byte) (s : State) : Result := .next (compareReg .A (Instr.cmpImm i).row (.immediate i) s)

/-- CMP Absolute, 0xCD, 4 cycles: compare A (R207). -/
def execCmpAbs (w : Word) (s : State) : Result := .next (compareReg .A (Instr.cmpAbs w).row (.absolute w) s)

/-- CMP IndirectY, 0xD1, 5 cycles +1 if page crossed: compare A (R207). -/
def execCmpIndY (z : Byte) (s : State) : Result := .next (compareReg .A (Instr.cmpIndY z).row (.indirectY z) s)

/-- CMP ZeroPageX, 0xD5, 4 cycles: compare A (R207). -/
def execCmpZpX (z : Byte) (s : State) : Result := .next (compareReg .A (Instr.cmpZpX z).row (.zeroPageX z) s)

/-- CMP AbsoluteY, 0xD9, 4 cycles +1 if page crossed: compare A (R207). -/
def execCmpAbsY (w : Word) (s : State) : Result := .next (compareReg .A (Instr.cmpAbsY w).row (.absoluteY w) s)

/-- CMP AbsoluteX, 0xDD, 4 cycles +1 if page crossed: compare A (R207). -/
def execCmpAbsX (w : Word) (s : State) : Result := .next (compareReg .A (Instr.cmpAbsX w).row (.absoluteX w) s)

/-- CPX Immediate, 0xE0, 2 cycles: compare X (R208). -/
def execCpxImm (i : Byte) (s : State) : Result := .next (compareReg .X (Instr.cpxImm i).row (.immediate i) s)

/-- CPX ZeroPage, 0xE4, 3 cycles: compare X (R208). -/
def execCpxZp (z : Byte) (s : State) : Result := .next (compareReg .X (Instr.cpxZp z).row (.zeroPage z) s)

/-- CPX Absolute, 0xEC, 4 cycles: compare X (R208). -/
def execCpxAbs (w : Word) (s : State) : Result := .next (compareReg .X (Instr.cpxAbs w).row (.absolute w) s)

/-- CPY Immediate, 0xC0, 2 cycles: compare Y (R209). -/
def execCpyImm (i : Byte) (s : State) : Result := .next (compareReg .Y (Instr.cpyImm i).row (.immediate i) s)

/-- CPY ZeroPage, 0xC4, 3 cycles: compare Y (R209). -/
def execCpyZp (z : Byte) (s : State) : Result := .next (compareReg .Y (Instr.cpyZp z).row (.zeroPage z) s)

/-- CPY Absolute, 0xCC, 4 cycles: compare Y (R209). -/
def execCpyAbs (w : Word) (s : State) : Result := .next (compareReg .Y (Instr.cpyAbs w).row (.absolute w) s)

/-- BIT ZeroPage, 0x24, 3 cycles: test M against A (R210). -/
def execBitZp (z : Byte) (s : State) : Result := .next (bitTest (Instr.bitZp z).row (.zeroPage z) s)

/-- BIT Absolute, 0x2C, 4 cycles: test M against A (R210). -/
def execBitAbs (w : Word) (s : State) : Result := .next (bitTest (Instr.bitAbs w).row (.absolute w) s)

end Sys2Proof.Machine
end

