-- ==== Sys2Proof/Machine/Control.lean ====
section
/-! DEFINITION. Control transfer (spec/44_control_flow.md), and the unknown opcodes (40_execute_cycle.md R144).
BRK enters and RTI returns by the shared operations of Machine/Ops.lean. -/

namespace Sys2Proof.Machine

/-- JMP: the effective address is the target (44_control_flow.md R260). -/
def jump (row : Row) (o : Operand) (s : State) : State := redirect row (ea o s) 0 s

/-- JSR: push `pc0 + 2`, the address of the instruction's last byte, then go to `EA` (44_control_flow.md R261). -/
def callTo (row : Row) (o : Operand) (s : State) : State := redirect row (ea o s) 0 (pushWord (s.cpu.pc + 2) s)

/-- RTS: the pulled address plus one is the target (44_control_flow.md R262). -/
def returnFromCall (row : Row) (s : State) : State :=
  let a := popWord s
  redirect row (a.value + 1) 0 a.state

/-- RTI: the status, then the return address, not incremented (44_control_flow.md R263). -/
def returnFromInterrupt (row : Row) (s : State) : State :=
  let a := pullFrame s
  redirect row a.value 0 a.state

/-- BRK: interrupt entry with B = 1 and the return address `pc0 + 2`, through the IRQ/BRK vector (44_control_flow.md R264). -/
def softwareInterrupt (row : Row) (s : State) : State :=
  enter (s.cpu.pc + 2) true irqVector (cycleCost s.config row false 0) s

/-- `branchExtra` of a taken branch: 1, and 1 more when the target is on another page than the next instruction
(44_control_flow.md R265). -/
def branchExtra (r : Byte) (s : State) : Nat := 1 + (if hi (s.cpu.pc + 2) != hi (branchTarget r s) then 1 else 0)

/-- A branch: to its target when the condition holds, else on to the next instruction (44_control_flow.md R265). -/
def branch (cond : Bool) (row : Row) (r : Byte) (s : State) : State :=
  if cond then redirect row (branchTarget r s) (branchExtra r s) s else advance row false s

/-- JMP Absolute, 0x4C, 3 cycles: go to the effective address (R260). -/
def execJmpAbs (w : Word) (s : State) : Result := .next (jump (Instr.jmpAbs w).row (.absolute w) s)

/-- JMP Indirect, 0x6C, 5 cycles: go to the effective address (R260). -/
def execJmpInd (w : Word) (s : State) : Result := .next (jump (Instr.jmpInd w).row (.indirect w) s)

/-- JSR Absolute, 0x20, 6 cycles: call (R261). -/
def execJsr (w : Word) (s : State) : Result := .next (callTo (Instr.jsr w).row (.absolute w) s)

/-- RTS Implied, 0x60, 6 cycles: return (R262). -/
def execRts (s : State) : Result := .next (returnFromCall Instr.rts.row s)

/-- RTI Implied, 0x40, 6 cycles: return from interrupt (R263). -/
def execRti (s : State) : Result := .next (returnFromInterrupt Instr.rti.row s)

/-- BRK Implied, 0x00, 7 cycles: software interrupt (R264). -/
def execBrk (s : State) : Result := .next (softwareInterrupt Instr.brk.row s)

/-- BCC Relative, 0x90, 2 cycles, 3 taken, 4 taken to another page: branch if C clear (R266). -/
def execBcc (r : Byte) (s : State) : Result := .next (branch (!s.cpu.p.c) (Instr.bcc r).row r s)

/-- BCS Relative, 0xB0, 2 cycles, 3 taken, 4 taken to another page: branch if C set (R267). -/
def execBcs (r : Byte) (s : State) : Result := .next (branch s.cpu.p.c (Instr.bcs r).row r s)

/-- BEQ Relative, 0xF0, 2 cycles, 3 taken, 4 taken to another page: branch if Z set (R268). -/
def execBeq (r : Byte) (s : State) : Result := .next (branch s.cpu.p.z (Instr.beq r).row r s)

/-- BNE Relative, 0xD0, 2 cycles, 3 taken, 4 taken to another page: branch if Z clear (R269). -/
def execBne (r : Byte) (s : State) : Result := .next (branch (!s.cpu.p.z) (Instr.bne r).row r s)

/-- BMI Relative, 0x30, 2 cycles, 3 taken, 4 taken to another page: branch if N set (R270). -/
def execBmi (r : Byte) (s : State) : Result := .next (branch s.cpu.p.n (Instr.bmi r).row r s)

/-- BPL Relative, 0x10, 2 cycles, 3 taken, 4 taken to another page: branch if N clear (R271). -/
def execBpl (r : Byte) (s : State) : Result := .next (branch (!s.cpu.p.n) (Instr.bpl r).row r s)

/-- BVC Relative, 0x50, 2 cycles, 3 taken, 4 taken to another page: branch if V clear (R272). -/
def execBvc (r : Byte) (s : State) : Result := .next (branch (!s.cpu.p.v) (Instr.bvc r).row r s)

/-- BVS Relative, 0x70, 2 cycles, 3 taken, 4 taken to another page: branch if V set (R273). -/
def execBvs (r : Byte) (s : State) : Result := .next (branch s.cpu.p.v (Instr.bvs r).row r s)

/-- NOP Implied, 0xEA, 2 cycles: nothing but the pc (R274). -/
def execNop (s : State) : Result := .next (advance Instr.nop.row false s)

/-- An unknown opcode: the pc moves past its byte, the count is `UNKNOWN_OPCODE_CYCLES`, nothing else changes
(40_execute_cycle.md R144). -/
def execUnknown (op : Byte) (s : State) : Result := .next (advance (Instr.unknown op).row false s)

end Sys2Proof.Machine
end

