-- ==== Sys2Proof/Machine/LoadStore.lean ====
section
/-! DEFINITION. Loads, stores and register transfers (spec/41_load_store_transfer.md). -/

namespace Sys2Proof.Machine

/-- A load: `M <- MemRead(EA, 1); x[r] <- M; SetNZ(M)` (41_load_store_transfer.md R170 to R173). -/
def load (r : Reg) (row : Row) (o : Operand) (s : State) : State :=
  let m := value o s
  advance row (crossed o s) ((s.setReg r m).updP (setNZ m))

/-- A store: `MemWrite(EA, 1, x[r])`, no flag (41_load_store_transfer.md R170, R174 to R176). -/
def store (r : Reg) (row : Row) (o : Operand) (s : State) : State :=
  advance row (crossed o s) (s.write (ea o s) (s.reg r))

/-- A transfer that sets N and Z: `x[dst] <- x[src]; SetNZ(x[dst])` (41_load_store_transfer.md R177 to R181). -/
def transfer (src dst : Reg) (row : Row) (s : State) : State :=
  advance row false ((s.setReg dst (s.reg src)).updP (setNZ (s.reg src)))

/-- TXS: `x[SP] <- x[X]`, the one transfer that writes no flag (41_load_store_transfer.md R182). -/
def transferToSp (row : Row) (s : State) : State := advance row false (s.setReg .SP (s.reg .X))

/-- LDA IndirectX, 0xA1, 6 cycles: load A (R171). -/
def execLdaIndX (z : Byte) (s : State) : Result := .next (load .A (Instr.ldaIndX z).row (.indirectX z) s)

/-- LDA ZeroPage, 0xA5, 3 cycles: load A (R171). -/
def execLdaZp (z : Byte) (s : State) : Result := .next (load .A (Instr.ldaZp z).row (.zeroPage z) s)

/-- LDA Immediate, 0xA9, 2 cycles: load A (R171). -/
def execLdaImm (i : Byte) (s : State) : Result := .next (load .A (Instr.ldaImm i).row (.immediate i) s)

/-- LDA Absolute, 0xAD, 4 cycles: load A (R171). -/
def execLdaAbs (w : Word) (s : State) : Result := .next (load .A (Instr.ldaAbs w).row (.absolute w) s)

/-- LDA IndirectY, 0xB1, 5 cycles +1 if page crossed: load A (R171). -/
def execLdaIndY (z : Byte) (s : State) : Result := .next (load .A (Instr.ldaIndY z).row (.indirectY z) s)

/-- LDA ZeroPageX, 0xB5, 4 cycles: load A (R171). -/
def execLdaZpX (z : Byte) (s : State) : Result := .next (load .A (Instr.ldaZpX z).row (.zeroPageX z) s)

/-- LDA AbsoluteY, 0xB9, 4 cycles +1 if page crossed: load A (R171). -/
def execLdaAbsY (w : Word) (s : State) : Result := .next (load .A (Instr.ldaAbsY w).row (.absoluteY w) s)

/-- LDA AbsoluteX, 0xBD, 4 cycles +1 if page crossed: load A (R171). -/
def execLdaAbsX (w : Word) (s : State) : Result := .next (load .A (Instr.ldaAbsX w).row (.absoluteX w) s)

/-- LDX Immediate, 0xA2, 2 cycles: load X (R172). -/
def execLdxImm (i : Byte) (s : State) : Result := .next (load .X (Instr.ldxImm i).row (.immediate i) s)

/-- LDX ZeroPage, 0xA6, 3 cycles: load X (R172). -/
def execLdxZp (z : Byte) (s : State) : Result := .next (load .X (Instr.ldxZp z).row (.zeroPage z) s)

/-- LDX Absolute, 0xAE, 4 cycles: load X (R172). -/
def execLdxAbs (w : Word) (s : State) : Result := .next (load .X (Instr.ldxAbs w).row (.absolute w) s)

/-- LDX ZeroPageY, 0xB6, 4 cycles: load X (R172). -/
def execLdxZpY (z : Byte) (s : State) : Result := .next (load .X (Instr.ldxZpY z).row (.zeroPageY z) s)

/-- LDX AbsoluteY, 0xBE, 4 cycles +1 if page crossed: load X (R172). -/
def execLdxAbsY (w : Word) (s : State) : Result := .next (load .X (Instr.ldxAbsY w).row (.absoluteY w) s)

/-- LDY Immediate, 0xA0, 2 cycles: load Y (R173). -/
def execLdyImm (i : Byte) (s : State) : Result := .next (load .Y (Instr.ldyImm i).row (.immediate i) s)

/-- LDY ZeroPage, 0xA4, 3 cycles: load Y (R173). -/
def execLdyZp (z : Byte) (s : State) : Result := .next (load .Y (Instr.ldyZp z).row (.zeroPage z) s)

/-- LDY Absolute, 0xAC, 4 cycles: load Y (R173). -/
def execLdyAbs (w : Word) (s : State) : Result := .next (load .Y (Instr.ldyAbs w).row (.absolute w) s)

/-- LDY ZeroPageX, 0xB4, 4 cycles: load Y (R173). -/
def execLdyZpX (z : Byte) (s : State) : Result := .next (load .Y (Instr.ldyZpX z).row (.zeroPageX z) s)

/-- LDY AbsoluteX, 0xBC, 4 cycles +1 if page crossed: load Y (R173). -/
def execLdyAbsX (w : Word) (s : State) : Result := .next (load .Y (Instr.ldyAbsX w).row (.absoluteX w) s)

/-- STA IndirectX, 0x81, 6 cycles: store A (R174). -/
def execStaIndX (z : Byte) (s : State) : Result := .next (store .A (Instr.staIndX z).row (.indirectX z) s)

/-- STA ZeroPage, 0x85, 3 cycles: store A (R174). -/
def execStaZp (z : Byte) (s : State) : Result := .next (store .A (Instr.staZp z).row (.zeroPage z) s)

/-- STA Absolute, 0x8D, 4 cycles: store A (R174). -/
def execStaAbs (w : Word) (s : State) : Result := .next (store .A (Instr.staAbs w).row (.absolute w) s)

/-- STA IndirectY, 0x91, 6 cycles: store A (R174). -/
def execStaIndY (z : Byte) (s : State) : Result := .next (store .A (Instr.staIndY z).row (.indirectY z) s)

/-- STA ZeroPageX, 0x95, 4 cycles: store A (R174). -/
def execStaZpX (z : Byte) (s : State) : Result := .next (store .A (Instr.staZpX z).row (.zeroPageX z) s)

/-- STA AbsoluteY, 0x99, 5 cycles: store A (R174). -/
def execStaAbsY (w : Word) (s : State) : Result := .next (store .A (Instr.staAbsY w).row (.absoluteY w) s)

/-- STA AbsoluteX, 0x9D, 5 cycles: store A (R174). -/
def execStaAbsX (w : Word) (s : State) : Result := .next (store .A (Instr.staAbsX w).row (.absoluteX w) s)

/-- STX ZeroPage, 0x86, 3 cycles: store X (R175). -/
def execStxZp (z : Byte) (s : State) : Result := .next (store .X (Instr.stxZp z).row (.zeroPage z) s)

/-- STX Absolute, 0x8E, 4 cycles: store X (R175). -/
def execStxAbs (w : Word) (s : State) : Result := .next (store .X (Instr.stxAbs w).row (.absolute w) s)

/-- STX ZeroPageY, 0x96, 4 cycles: store X (R175). -/
def execStxZpY (z : Byte) (s : State) : Result := .next (store .X (Instr.stxZpY z).row (.zeroPageY z) s)

/-- STY ZeroPage, 0x84, 3 cycles: store Y (R176). -/
def execStyZp (z : Byte) (s : State) : Result := .next (store .Y (Instr.styZp z).row (.zeroPage z) s)

/-- STY Absolute, 0x8C, 4 cycles: store Y (R176). -/
def execStyAbs (w : Word) (s : State) : Result := .next (store .Y (Instr.styAbs w).row (.absolute w) s)

/-- STY ZeroPageX, 0x94, 4 cycles: store Y (R176). -/
def execStyZpX (z : Byte) (s : State) : Result := .next (store .Y (Instr.styZpX z).row (.zeroPageX z) s)

/-- TAX Implied, 0xAA, 2 cycles: A to X (R177). -/
def execTax (s : State) : Result := .next (transfer .A .X Instr.tax.row s)

/-- TAY Implied, 0xA8, 2 cycles: A to Y (R178). -/
def execTay (s : State) : Result := .next (transfer .A .Y Instr.tay.row s)

/-- TXA Implied, 0x8A, 2 cycles: X to A (R179). -/
def execTxa (s : State) : Result := .next (transfer .X .A Instr.txa.row s)

/-- TYA Implied, 0x98, 2 cycles: Y to A (R180). -/
def execTya (s : State) : Result := .next (transfer .Y .A Instr.tya.row s)

/-- TSX Implied, 0xBA, 2 cycles: SP to X (R181). -/
def execTsx (s : State) : Result := .next (transfer .SP .X Instr.tsx.row s)

/-- TXS Implied, 0x9A, 2 cycles: X to SP (R182). -/
def execTxs (s : State) : Result := .next (transferToSp Instr.txs.row s)

end Sys2Proof.Machine
end

