-- ==== Sys2Proof/Machine/Shift.lean ====
section
/-! DEFINITION. Shifts, rotates, increments and decrements (spec/43_shift_incdec.md). -/

namespace Sys2Proof.Machine

/-- The accumulator form of a shift or rotate (43_shift_incdec.md R230). -/
def shiftA (f : Byte → Bool → Shifted) (row : Row) (s : State) : State :=
  let t := f s.cpu.a s.cpu.p.c
  advance row false ((s.setReg .A t.result).updP (shiftFlags t))

/-- A memory form of a shift or rotate: `EA` is read once and written once (43_shift_incdec.md R230). -/
def shiftMem (f : Byte → Bool → Shifted) (row : Row) (o : Operand) (s : State) : State :=
  let t := f (s.read (ea o s)) s.cpu.p.c
  advance row (crossed o s) ((s.write (ea o s) t.result).updP (shiftFlags t))

/-- INC and DEC: `EA` is read once, changed by `k` modulo 256 and written once; C and V stay (43_shift_incdec.md R235, R236). -/
def stepMem (k : Byte) (row : Row) (o : Operand) (s : State) : State :=
  let r := s.read (ea o s) + k
  advance row (crossed o s) ((s.write (ea o s) r).updP (setNZ r))

/-- INX, INY, DEX and DEY: `x[r]` changed by `k` modulo 256, then `SetNZ` (43_shift_incdec.md R237 to R240). -/
def stepReg (r : Reg) (k : Byte) (row : Row) (s : State) : State :=
  advance row false ((s.setReg r (s.reg r + k)).updP (setNZ (s.reg r + k)))

/-- ASL ZeroPage, 0x06, 5 cycles: shift left (R231). -/
def execAslZp (z : Byte) (s : State) : Result := .next (shiftMem aslByte (Instr.aslZp z).row (.zeroPage z) s)

/-- ASL Implied (accumulator), 0x0A, 2 cycles: shift left (R231). -/
def execAslAcc (s : State) : Result := .next (shiftA aslByte Instr.aslAcc.row s)

/-- ASL Absolute, 0x0E, 6 cycles: shift left (R231). -/
def execAslAbs (w : Word) (s : State) : Result := .next (shiftMem aslByte (Instr.aslAbs w).row (.absolute w) s)

/-- ASL ZeroPageX, 0x16, 6 cycles: shift left (R231). -/
def execAslZpX (z : Byte) (s : State) : Result := .next (shiftMem aslByte (Instr.aslZpX z).row (.zeroPageX z) s)

/-- ASL AbsoluteX, 0x1E, 7 cycles: shift left (R231). -/
def execAslAbsX (w : Word) (s : State) : Result := .next (shiftMem aslByte (Instr.aslAbsX w).row (.absoluteX w) s)

/-- LSR ZeroPage, 0x46, 5 cycles: shift right (R232). -/
def execLsrZp (z : Byte) (s : State) : Result := .next (shiftMem lsrByte (Instr.lsrZp z).row (.zeroPage z) s)

/-- LSR Implied (accumulator), 0x4A, 2 cycles: shift right (R232). -/
def execLsrAcc (s : State) : Result := .next (shiftA lsrByte Instr.lsrAcc.row s)

/-- LSR Absolute, 0x4E, 6 cycles: shift right (R232). -/
def execLsrAbs (w : Word) (s : State) : Result := .next (shiftMem lsrByte (Instr.lsrAbs w).row (.absolute w) s)

/-- LSR ZeroPageX, 0x56, 6 cycles: shift right (R232). -/
def execLsrZpX (z : Byte) (s : State) : Result := .next (shiftMem lsrByte (Instr.lsrZpX z).row (.zeroPageX z) s)

/-- LSR AbsoluteX, 0x5E, 7 cycles: shift right (R232). -/
def execLsrAbsX (w : Word) (s : State) : Result := .next (shiftMem lsrByte (Instr.lsrAbsX w).row (.absoluteX w) s)

/-- ROL ZeroPage, 0x26, 5 cycles: rotate left through C (R233). -/
def execRolZp (z : Byte) (s : State) : Result := .next (shiftMem rolByte (Instr.rolZp z).row (.zeroPage z) s)

/-- ROL Implied (accumulator), 0x2A, 2 cycles: rotate left through C (R233). -/
def execRolAcc (s : State) : Result := .next (shiftA rolByte Instr.rolAcc.row s)

/-- ROL Absolute, 0x2E, 6 cycles: rotate left through C (R233). -/
def execRolAbs (w : Word) (s : State) : Result := .next (shiftMem rolByte (Instr.rolAbs w).row (.absolute w) s)

/-- ROL ZeroPageX, 0x36, 6 cycles: rotate left through C (R233). -/
def execRolZpX (z : Byte) (s : State) : Result := .next (shiftMem rolByte (Instr.rolZpX z).row (.zeroPageX z) s)

/-- ROL AbsoluteX, 0x3E, 7 cycles: rotate left through C (R233). -/
def execRolAbsX (w : Word) (s : State) : Result := .next (shiftMem rolByte (Instr.rolAbsX w).row (.absoluteX w) s)

/-- ROR ZeroPage, 0x66, 5 cycles: rotate right through C (R234). -/
def execRorZp (z : Byte) (s : State) : Result := .next (shiftMem rorByte (Instr.rorZp z).row (.zeroPage z) s)

/-- ROR Implied (accumulator), 0x6A, 2 cycles: rotate right through C (R234). -/
def execRorAcc (s : State) : Result := .next (shiftA rorByte Instr.rorAcc.row s)

/-- ROR Absolute, 0x6E, 6 cycles: rotate right through C (R234). -/
def execRorAbs (w : Word) (s : State) : Result := .next (shiftMem rorByte (Instr.rorAbs w).row (.absolute w) s)

/-- ROR ZeroPageX, 0x76, 6 cycles: rotate right through C (R234). -/
def execRorZpX (z : Byte) (s : State) : Result := .next (shiftMem rorByte (Instr.rorZpX z).row (.zeroPageX z) s)

/-- ROR AbsoluteX, 0x7E, 7 cycles: rotate right through C (R234). -/
def execRorAbsX (w : Word) (s : State) : Result := .next (shiftMem rorByte (Instr.rorAbsX w).row (.absoluteX w) s)

/-- INC ZeroPage, 0xE6, 5 cycles: add 1 (R235). -/
def execIncZp (z : Byte) (s : State) : Result := .next (stepMem 1 (Instr.incZp z).row (.zeroPage z) s)

/-- INC Absolute, 0xEE, 6 cycles: add 1 (R235). -/
def execIncAbs (w : Word) (s : State) : Result := .next (stepMem 1 (Instr.incAbs w).row (.absolute w) s)

/-- INC ZeroPageX, 0xF6, 6 cycles: add 1 (R235). -/
def execIncZpX (z : Byte) (s : State) : Result := .next (stepMem 1 (Instr.incZpX z).row (.zeroPageX z) s)

/-- INC AbsoluteX, 0xFE, 7 cycles: add 1 (R235). -/
def execIncAbsX (w : Word) (s : State) : Result := .next (stepMem 1 (Instr.incAbsX w).row (.absoluteX w) s)

/-- DEC ZeroPage, 0xC6, 5 cycles: subtract 1 (R236). -/
def execDecZp (z : Byte) (s : State) : Result := .next (stepMem (-1) (Instr.decZp z).row (.zeroPage z) s)

/-- DEC Absolute, 0xCE, 6 cycles: subtract 1 (R236). -/
def execDecAbs (w : Word) (s : State) : Result := .next (stepMem (-1) (Instr.decAbs w).row (.absolute w) s)

/-- DEC ZeroPageX, 0xD6, 6 cycles: subtract 1 (R236). -/
def execDecZpX (z : Byte) (s : State) : Result := .next (stepMem (-1) (Instr.decZpX z).row (.zeroPageX z) s)

/-- DEC AbsoluteX, 0xDE, 7 cycles: subtract 1 (R236). -/
def execDecAbsX (w : Word) (s : State) : Result := .next (stepMem (-1) (Instr.decAbsX w).row (.absoluteX w) s)

/-- INX Implied, 0xE8, 2 cycles: add 1 (R237). -/
def execInx (s : State) : Result := .next (stepReg .X 1 Instr.inx.row s)

/-- INY Implied, 0xC8, 2 cycles: add 1 (R238). -/
def execIny (s : State) : Result := .next (stepReg .Y 1 Instr.iny.row s)

/-- DEX Implied, 0xCA, 2 cycles: subtract 1 (R239). -/
def execDex (s : State) : Result := .next (stepReg .X (-1) Instr.dex.row s)

/-- DEY Implied, 0x88, 2 cycles: subtract 1 (R240). -/
def execDey (s : State) : Result := .next (stepReg .Y (-1) Instr.dey.row s)

end Sys2Proof.Machine
end

