-- ==== Sys2Proof/Machine/StackFlags.lean ====
section
/-! DEFINITION. Stack and flag instructions (spec/45_stack_flags.md). -/

namespace Sys2Proof.Machine

/-- PHA and PHP: push a byte (45_stack_flags.md R290, R291). -/
def pushByte (v : Byte) (row : Row) (s : State) : State := advance row false (push v s)

/-- PLA: pull into A, then `SetNZ` (45_stack_flags.md R292). -/
def pullA (row : Row) (s : State) : State :=
  let b := pop s
  advance row false ((b.state.setReg .A b.value).updP (setNZ b.value))

/-- PLP: all six flags from the pulled byte (45_stack_flags.md R293). -/
def pullP (row : Row) (s : State) : State :=
  let b := pop s
  advance row false (b.state.setP (unpackP b.value))

/-- CLC, SEC, CLI, SEI, CLD, SED, CLV: one flag written (45_stack_flags.md R294 to R300). -/
def writeFlag (f : Flags → Flags) (row : Row) (s : State) : State := advance row false (s.updP f)

/-- PHA Implied, 0x48, 3 cycles: push A (R290). -/
def execPha (s : State) : Result := .next (pushByte s.cpu.a Instr.pha.row s)

/-- PHP Implied, 0x08, 3 cycles: push P with B = 1 (R291). -/
def execPhp (s : State) : Result := .next (pushByte (packP true s.cpu.p) Instr.php.row s)

/-- PLA Implied, 0x68, 4 cycles: pull A (R292). -/
def execPla (s : State) : Result := .next (pullA Instr.pla.row s)

/-- PLP Implied, 0x28, 4 cycles: pull P (R293). -/
def execPlp (s : State) : Result := .next (pullP Instr.plp.row s)

/-- CLC Implied, 0x18, 2 cycles: C <- 0 (R294). -/
def execClc (s : State) : Result := .next (writeFlag (fun p => { p with c := false }) Instr.clc.row s)

/-- SEC Implied, 0x38, 2 cycles: C <- 1 (R295). -/
def execSec (s : State) : Result := .next (writeFlag (fun p => { p with c := true }) Instr.sec.row s)

/-- CLI Implied, 0x58, 2 cycles: I <- 0 (R296). -/
def execCli (s : State) : Result := .next (writeFlag (fun p => { p with i := false }) Instr.cli.row s)

/-- SEI Implied, 0x78, 2 cycles: I <- 1 (R297). -/
def execSei (s : State) : Result := .next (writeFlag (fun p => { p with i := true }) Instr.sei.row s)

/-- CLD Implied, 0xD8, 2 cycles: D <- 0 (R298). -/
def execCld (s : State) : Result := .next (writeFlag (fun p => { p with d := false }) Instr.cld.row s)

/-- SED Implied, 0xF8, 2 cycles: D <- 1 (R299). -/
def execSed (s : State) : Result := .next (writeFlag (fun p => { p with d := true }) Instr.sed.row s)

/-- CLV Implied, 0xB8, 2 cycles: V <- 0 (R300). -/
def execClv (s : State) : Result := .next (writeFlag (fun p => { p with v := false }) Instr.clv.row s)

end Sys2Proof.Machine
end

