-- ==== Sys2Proof/Machine/RingBuffer.lean ====
section
/-! DEFINITION. The ring buffer: the producer's flush (spec/60_exceptions.md R383) and the consumer `Pull` (R384, R385), which the
audio callback agent runs one access at a time, each anywhere among the writes of a tick (R395, notes/assumptions/7.md, 8.md). -/

namespace Sys2Proof.Machine

/-- What slot `k` of the ring holds; a slot that is not listed holds 0 (10_state.md R39). -/
def Ring.slot (r : Ring) (k : Nat) : Sample := Store.get 0 r.slots k

/-- The emulation agent has written to the ring: a turn of the callback agent may still come before it (60_exceptions.md R385, R395). -/
def Callback.note (e : Replaced) (c : Callback) : Callback := { c with unseen := e :: c.unseen }

/-- The producer writes one sample at slot `wcur' mod RING_CAPACITY` and moves on (60_exceptions.md R383). -/
def produce (v : Sample) (s : State) : State :=
  let k := s.ring.wcur % s.config.ringCapacity
  { s with
    ring := { s.ring with slots := Store.set 0 s.ring.slots k v, wcur := s.ring.wcur + 1 }
    callback := s.callback.note (.slot k (s.ring.slot k)) }

/-- The producer writes samples in order. -/
def produceAll : List Sample → State → State
  | [], s => s
  | v :: vs, s => produceAll vs (produce v s)

/-- `Flush()`: the staged samples move into the ring in order, the write cursor is published, and staging is empty (60_exceptions.md
R383). The consumer sees the cursor before the flush until it sees the publication. -/
def flush (s : State) : State :=
  let t := produceAll s.audio.staging s
  { t with
    audio := { t.audio with staging := [] }
    callback := t.callback.note (.wcur s.ring.wcur) }

/-- The callback agent's access comes before the latest `lag` of the writes to the ring it may still come before; those before them it
has seen for good (60_exceptions.md R385, R395). With `lag = 0` it sees the ring as it is. -/
def lookBack (lag : Nat) (s : State) : State :=
  { s with callback := { s.callback with unseen := s.callback.unseen.take lag } }

/-- The sample in slot `k` before the writes `u`, the latest first, when after them it is `v`. -/
def slotBefore (k : Nat) : List Replaced → Sample → Sample
  | [], v => v
  | .slot j old :: u, v => slotBefore k u (if j = k then old else v)
  | .wcur _ :: u, v => slotBefore k u v

/-- The published write cursor before the writes `u`, the latest first, when after them it is `w`. -/
def wcurBefore : List Replaced → Nat → Nat
  | [], w => w
  | .slot _ _ :: u, w => wcurBefore u w
  | .wcur old :: u, _ => wcurBefore u old

/-- The sample the callback agent reads from slot `k` (60_exceptions.md R384, R385). -/
def seenSlot (s : State) (k : Nat) : Sample := slotBefore k s.callback.unseen (s.ring.slot k)

/-- The write cursor the callback agent loads (60_exceptions.md R384). -/
def seenWcur (s : State) : Nat := wcurBefore s.callback.unseen s.ring.wcur

/-- `rcur` after the overrun correction: a lapped reader jumps to `w - RING_CAPACITY` (60_exceptions.md R384). -/
def correctedRcur (cap w rcur : Nat) : Nat := if w - rcur > cap then w - cap else rcur

/-- The beginning of `Pull(K)`: `wcur` is loaded, `rcur` corrected, the number of samples to copy fixed (60_exceptions.md R384). A call
while a Pull is in progress is no move of the one callback agent (notes/assumptions/9.md). -/
def pullCall (k : Nat) (s : State) : State :=
  match s.callback.pull with
  | some _ => s
  | none =>
    let w := seenWcur s
    let r := correctedRcur s.config.ringCapacity w s.ring.rcur
    { s with
      ring := { s.ring with rcur := r }
      callback := { s.callback with pull := some { bytes := k, count := min (k / 2) (w - r), got := [] } } }

/-- The bytes of a finished Pull: each sample low byte then high byte, zeros for the shortfall, and one zero byte more when the
request is odd (60_exceptions.md R384). -/
def pullBytes (k : Nat) (got : List Sample) : List Byte :=
  (got ++ List.replicate (k / 2 - got.length) 0).flatMap (fun v => [lo v, hi v]) ++ (if k % 2 = 1 then [0] else [])

/-- The Pull in progress goes on: it reads the next slot while there is one to read, else it publishes `rcur + n` and returns its
bytes (60_exceptions.md R384). With no Pull in progress the agent makes no move (notes/assumptions/9.md). -/
def pullAdvance (s : State) : State :=
  match s.callback.pull with
  | none => s
  | some p =>
    if p.got.length < p.count then
      let v := seenSlot s ((s.ring.rcur + p.got.length) % s.config.ringCapacity)
      { s with callback := { s.callback with pull := some { p with got := p.got ++ [v] } } }
    else
      { s with
        ring := { s.ring with rcur := s.ring.rcur + p.count }
        callback := { s.callback with pull := none, returned := pullBytes p.bytes p.got } }

end Sys2Proof.Machine
end

