-- ==== Sys2Proof/Machine/Audio.lean ====
section
/-! DEFINITION. The audio synthesis unit (spec/60_exceptions.md R375 to R383). Its registers are bytes of the bus, read at the moment a
sample is synthesised (R377, R382). -/

namespace Sys2Proof.Machine

/-- A channel's period: 11 bits split across two bus bytes (60_exceptions.md R376). -/
def channelPeriod (s : State) (loAddr hiAddr : Word) : Nat := (word (s.read hiAddr &&& 0x07) (s.read loAddr)).toNat

/-- A pulse channel's duty, bits 7:6 of its byte (60_exceptions.md R376). -/
def channelDuty (s : State) (addr : Word) : Nat := (s.read addr >>> 6).toNat

/-- `DUTY` (60_exceptions.md R380). -/
def dutyTable : List (List Nat) :=
  [[0, 1, 0, 0, 0, 0, 0, 0], [0, 1, 1, 0, 0, 0, 0, 0], [0, 1, 1, 1, 1, 0, 0, 0], [1, 0, 0, 1, 1, 1, 1, 1]]

/-- `TRI` (60_exceptions.md R381). -/
def triangleTable : List Nat :=
  [15, 14, 13, 12, 11, 10, 9, 8, 7, 6, 5, 4, 3, 2, 1, 0] ++ [0, 1, 2, 3, 4, 5, 6, 7, 8, 9, 10, 11, 12, 13, 14, 15]

/-- The phase of sample `n`, quantised to `steps` steps of a cycle of `divider × (p + 1)` CPU cycles, in exact integers and before the
clamp (60_exceptions.md R379, R381). -/
def phaseStep (g : Config) (steps divider n p : Nat) : Nat :=
  let q := g.sampleRateHz * divider * (p + 1)
  (steps * ((n * g.cpuClockHz) % q)) / q

/-- `PulseValue(n, p, d)` (60_exceptions.md R379). -/
def pulseValue (g : Config) (n p d : Nat) : Nat :=
  if p = 0 then 0 else (dutyTable.getD d []).getD (min 7 (phaseStep g 8 16 n p)) 0

/-- `TriangleValue(n, p)` (60_exceptions.md R381). -/
def triangleValue (g : Config) (n p : Nat) : Nat :=
  if p = 0 then 0 else triangleTable.getD (min 31 (phaseStep g 32 32 n p)) 0

/-- `Sat16(x)` (60_exceptions.md R382). -/
def sat16 (x : Int) : Int := max (-32768) (min 32767 x)

/-- `Synth(n)`: the amplitude-scaled sum of the channels, saturated (60_exceptions.md R382), in 16-bit two's complement
(notes/assumptions/19.md). -/
def synth (s : State) (n : Nat) : Sample :=
  let v1 := pulseValue s.config n (channelPeriod s 0x4002 0x4003) (channelDuty s 0x4000)
  let v2 := pulseValue s.config n (channelPeriod s 0x4006 0x4007) (channelDuty s 0x4004)
  let vt := triangleValue s.config n (channelPeriod s 0x400A 0x400B)
  BitVec.ofInt 16 (sat16 (s.config.gainPulse * (v1 + v2 : Nat) + s.config.gainTriangle * vt))

/-- One turn of the loop of `AudioAdvance`: synthesise, stage, count, and flush a full batch (60_exceptions.md R378). -/
def synthesise (s : State) : State :=
  let t := { s with
    audio := { s.audio with
      samplesMade := s.audio.samplesMade + 1
      staging := s.audio.staging ++ [synth s s.audio.samplesMade] } }
  if t.audio.staging.length = t.config.batchSize then flush t else t

/-- `n` turns of the loop. -/
def synthesiseN : Nat → State → State
  | 0, s => s
  | n + 1, s => synthesiseN n (synthesise s)

/-- `due`: the samples that should exist after `apuCycles` CPU cycles (60_exceptions.md R378). -/
def samplesDue (g : Config) (apuCycles : Nat) : Nat := apuCycles * g.sampleRateHz / g.cpuClockHz

/-- `AudioAdvance(c)`: count the cycles, then synthesise until `samplesMade` is no longer below `due` (60_exceptions.md R378). -/
def audioAdvance (c : Nat) (s : State) : State :=
  let t := { s with audio := { s.audio with apuCycles := s.audio.apuCycles + c } }
  synthesiseN (samplesDue t.config t.audio.apuCycles - t.audio.samplesMade) t

end Sys2Proof.Machine
end

