-- ==== Sys2Proof/Machine/Video.lean ====
section
/-! DEFINITION. The video timing unit (spec/60_exceptions.md R360 to R368). -/

namespace Sys2Proof.Machine

/-- PPU cycles per CPU cycle (00_scope.md R7). -/
def ppuPerCpu : Nat := 3

/-- PPU cycles per scanline (00_scope.md R7). -/
def ppuPerScanline : Nat := 341

/-- `FRAME_PPU_CYCLES`, 262 scanlines of 341 PPU cycles (00_scope.md R7). -/
def framePpuCycles : Nat := 89342

/-- `VBLANK_START_SCANLINE` (00_scope.md R7). -/
def vblankStartScanline : Nat := 241

/-- `VBLANK_END_SCANLINE` (00_scope.md R7). -/
def vblankEndScanline : Nat := 261

/-- `VBLANK_STATUS_ADDR` (00_scope.md R7). -/
def vblankStatusAddr : Word := 0x2002

/-- `StateOf(s)` (60_exceptions.md R363). -/
def stateOf (scanline : Nat) : VState :=
  if scanline < vblankStartScanline then .visible
  else if scanline < vblankEndScanline then .vblankActive
  else .vblankDone

/-- `VBlankStart()`: the active flag, the interrupt request, and bit 7 of the status byte (60_exceptions.md R364). -/
def vblankStart (s : State) : State :=
  { s.write vblankStatusAddr (s.read vblankStatusAddr ||| 0x80) with
    video := { s.video with vblankActive := true }
    nmiRequest := true }

/-- `VBlankEnd()`: clears the flag and bit 7, raises nothing (60_exceptions.md R365). -/
def vblankEnd (s : State) : State :=
  { s.write vblankStatusAddr (s.read vblankStatusAddr &&& 0x7F) with
    video := { s.video with vblankActive := false } }

/-- `ppuCycle` after one PPU cycle: one more, wrapped at a full frame (60_exceptions.md R362). -/
def nextPpuCycle (c : Nat) : Nat := if c + 1 = framePpuCycles then 0 else c + 1

/-- `PpuStep()` (60_exceptions.md R362). -/
def ppuStep (s : State) : State :=
  let c := nextPpuCycle s.video.ppuCycle
  let v := stateOf (c / ppuPerScanline)
  let t := { s with video := { s.video with ppuCycle := c, scanline := c / ppuPerScanline, vstate := v } }
  if s.video.vstate = .visible ∧ v = .vblankActive then vblankStart t
  else if s.video.vstate = .vblankActive ∧ v = .vblankDone then vblankEnd t
  else t

/-- `n` PPU steps. -/
def ppuSteps : Nat → State → State
  | 0, s => s
  | n + 1, s => ppuSteps n (ppuStep s)

/-- `VideoAdvance(c)`: exactly `3 × c` PPU steps (60_exceptions.md R361). -/
def videoAdvance (c : Nat) (s : State) : State := ppuSteps (ppuPerCpu * c) s

end Sys2Proof.Machine
end

