-- ==== Sys2Proof/Machine/Scheduler.lean ====
section
/-! DEFINITION. The timing scheduler's parts of a tick (spec/60_exceptions.md R326, R327, R340 to R342). Machine/Step.lean puts them in the
order of R341. -/

namespace Sys2Proof.Machine

/-- `Feed(c)`: the total, then the video unit, then the audio unit (60_exceptions.md R342). -/
def feed (c : Nat) (s : State) : State :=
  audioAdvance c (videoAdvance c { s with sched := { s.sched with totalCycles := s.sched.totalCycles + c } })

/-- `IRQ_LINE(tickCount)` (60_exceptions.md R326). -/
def irqLevel (s : State) : Bool := s.config.irqLine.levels.getD s.sched.tickCount s.config.irqLine.rest

/-- An IRQ is accepted: P.I is 0 and the line is true (60_exceptions.md R327). -/
def irqAccepted (s : State) : Bool := !s.cpu.p.i && irqLevel s

/-- The start of a tick: a pending NMI is delivered; otherwise an accepted IRQ is entered; at most one of the two, and its cycles are
fed (60_exceptions.md R328, R340, R341). -/
def takeInterrupt (s : State) : State :=
  if s.nmiRequest then
    let t := nmiEntry { s with nmiRequest := false }
    feed t.cycles t
  else if irqAccepted s then
    let t := irqEntry s
    feed t.cycles t
  else s

/-- The end of a tick: the step's cycles are fed, the tick is counted (60_exceptions.md R341). -/
def endTick (s : State) : State :=
  let t := feed s.cycles s
  { t with sched := { t.sched with tickCount := t.sched.tickCount + 1 } }

/-- The state in which a tick's instruction is fetched. The callback agent's turns that come before the writes of the tick before this one
are over (60_exceptions.md R395). -/
def beginTick (s : State) : State := takeInterrupt (lookBack 0 s)

end Sys2Proof.Machine
end

