-- ==== Sys2Proof/Machine/Step.lean ====
section
/-! DEFINITION. One step of the machine: one turn of one agent (spec/60_exceptions.md R341, R395), and the state in which a given
instruction is the next one fetched. -/

namespace Sys2Proof.Machine

/-- `Tick()`: the interrupt, the instruction at the pc, the feed, the count (60_exceptions.md R341). -/
def tick (s : State) : Host.Outcome State Fault Refusal :=
  let t := beginTick s
  match exec (fetch t) t with
  | .next u => .next (endTick u)
  | .fault r => .fault r
  | .refused r => .refused r

/-- One turn: the head of the agenda says whose; with an empty agenda the emulation agent runs a tick (notes/assumptions/6.md). -/
def step (s : State) : Host.Outcome State Fault Refusal :=
  match s.agenda with
  | [] => tick s
  | .emulation :: rest => tick { s with agenda := rest }
  | .call k lag :: rest => .next (pullCall k (lookBack lag { s with agenda := rest }))
  | .advance lag :: rest => .next (pullAdvance (lookBack lag { s with agenda := rest }))

/-- `s` without what would come before the fetch at its pc: other turns, a pending NMI, an accepted IRQ. -/
def State.aboutToFetch (s : State) : State :=
  let t := { s with agenda := [], nmiRequest := false }
  if irqAccepted t then { t with config := { t.config with irqLine := {} } } else t

/-- `s` with the instruction whose bits are `w` stored at the pc, zeros after its `nbits` bits up to the longest instruction, so that
the very next step fetches and runs it (notes/assumptions/12.md). -/
def State.withFetchWord (s : State) (nbits w : Nat) : State :=
  let t := s.aboutToFetch
  { t with bus := t.bus.writeBlock t.cpu.pc [tableByte nbits w 0, tableByte nbits w 1, tableByte nbits w 2] }

end Sys2Proof.Machine
end

