-- ==== Sys2Proof/Machine/Loader.lean ====
section
/-! DEFINITION. The loader contract: how a cartridge image becomes the bus's initial contents, and the start of a session
(spec/70_reset_and_hazards.md R420, R422, R430 to R434). It is a function of the file, not a step of the machine
(notes/assumptions/16.md). -/

namespace Sys2Proof.Machine

/-- The three signature bytes 'N', 'E', 'S' (70_reset_and_hazards.md R430). -/
def signature : List Byte := [0x4E, 0x45, 0x53]

/-- Byte `k` of a file. -/
def fileByte (file : List Byte) (k : Nat) : Nat := (file.getD k 0).toNat

/-- A program bank (70_reset_and_hazards.md R430). -/
def prgBankSize : Nat := 16384

/-- A character bank (70_reset_and_hazards.md R430). -/
def chrBankSize : Nat := 8192

/-- The header (70_reset_and_hazards.md R430). -/
def headerSize : Nat := 16

/-- The lower and upper program windows (20_memory.md R71). -/
def lowerWindow : Word := 0x8000
def upperWindow : Word := 0xC000

/-- The checks of `Load`, all made before the first bus write (70_reset_and_hazards.md R430, R431). -/
def imageAccepted (file : List Byte) : Bool :=
  decide (headerSize ≤ file.length) && file.take 3 == signature &&
    decide (headerSize + fileByte file 4 * prgBankSize + fileByte file 5 * chrBankSize ≤ file.length) &&
    decide (fileByte file 4 ≠ 0)

/-- The program data of an image: the bytes after the header, `n` of them (70_reset_and_hazards.md R430). -/
def programData (file : List Byte) (n : Nat) : List Byte := (file.drop headerSize).take n

/-- `Load(file)`: the bus with the program windows written, or `none` on failure (70_reset_and_hazards.md R430). One bank fills both
windows; with two or more, the first 32 KiB do (R432); the character data goes nowhere (R433). -/
def loadImage (file : List Byte) (bus : Memory) : Option Memory :=
  if imageAccepted file then
    if fileByte file 4 = 1 then
      some ((bus.writeBlock lowerWindow (programData file prgBankSize)).writeBlock upperWindow
        (programData file prgBankSize))
    else some (bus.writeBlock lowerWindow (programData file (2 * prgBankSize)))
  else none

/-- The start of a session: the image is loaded over `BUS_INIT`, then reset; a failed load gives no state to run
(70_reset_and_hazards.md R420, R422). -/
def session (g : Config) (busInit : Memory) (file : List Byte) : Option State :=
  (loadImage file busInit).map (State.launch g)

end Sys2Proof.Machine
end

