-- ==== Sys2Proof/Safety.lean ====
section
/-! DEFINITION. What holds of a machine at every step, in the terms the claims use: the invariant of the whole state, and which parts of
a state the emulation agent can see. -/

namespace Sys2Proof.Machine

/-- The invariants of the video timing unit (spec/10_state.md R34, 60_exceptions.md R343). -/
structure VideoInv (s : State) : Prop where
  /-- Phase lock: `ppuCycle = (3 × totalCycles) mod 89342` (60_exceptions.md R343). -/
  phase : s.video.ppuCycle = 3 * s.sched.totalCycles % framePpuCycles
  /-- `scanline = ppuCycle div 341` (10_state.md R34). -/
  scanline : s.video.scanline = s.video.ppuCycle / ppuPerScanline
  /-- `vstate` is `StateOf(scanline)` (60_exceptions.md R362, R363). -/
  vstate : s.video.vstate = stateOf s.video.scanline
  /-- `vblankActive = (vstate = VBlankActive)` (10_state.md R34). -/
  active : s.video.vblankActive = decide (s.video.vstate = .vblankActive)

/-- The invariants of the audio unit and the producer's side of the ring (10_state.md R35, R36, 60_exceptions.md R343, R378). -/
structure AudioInv (s : State) : Prop where
  /-- Phase lock: `apuCycles = totalCycles` (60_exceptions.md R343). -/
  phase : s.audio.apuCycles = s.sched.totalCycles
  /-- Every sample that is due is made, and none more (60_exceptions.md R378). -/
  made : s.audio.samplesMade = samplesDue s.config s.audio.apuCycles
  /-- Staging is shorter than a batch between calls (10_state.md R35). -/
  staged : s.audio.staging.length < s.config.batchSize
  /-- Every sample made is in the ring or staged (60_exceptions.md R378, R383). -/
  written : s.ring.wcur + s.audio.staging.length = s.audio.samplesMade
  /-- Samples enter the ring in whole batches (60_exceptions.md R378). -/
  batches : s.ring.wcur % s.config.batchSize = 0
  /-- The slots are in canonical form, each below `RING_CAPACITY` (10_state.md R36). -/
  slots : Store.wf (0 : Sample) s.config.ringCapacity s.ring.slots = true

/-- The read cursor `r` is at or below every value the write cursor may be seen at: `w` and, before it, those in `u`, which fall in
the order they are listed (60_exceptions.md R386 (1)). -/
def Behind (r : Nat) : List Replaced → Nat → Prop
  | [], w => r ≤ w
  | .slot _ _ :: u, w => Behind r u w
  | .wcur old :: u, w => old ≤ w ∧ Behind r u old

/-- How many samples the Pull in progress will have consumed when it returns. -/
def Callback.reading (c : Callback) : Nat := (c.pull.map fun p => p.count).getD 0

/-- The invariants of the consumer's side of the ring (60_exceptions.md R384, R386). -/
structure ConsumerInv (s : State) : Prop where
  /-- The read cursor never passes the write cursor, neither now nor when the Pull in progress returns (60_exceptions.md R386 (1)). -/
  behind : Behind (s.ring.rcur + s.callback.reading) s.callback.unseen s.ring.wcur
  /-- A Pull in progress has read no more than it fixed at its call, and that is at most what was asked for and what fits the ring
  (60_exceptions.md R384). -/
  pulling : ∀ p, s.callback.pull = some p → p.got.length ≤ p.count ∧ p.count ≤ p.bytes / 2 ∧
    p.count ≤ s.config.ringCapacity

/-- The invariant of the machine. -/
structure MachineInv (s : State) : Prop where
  /-- The launch parameters meet their constraints (00_scope.md R8). -/
  config : s.config.wf = true
  /-- The bus is in canonical form (20_memory.md R60). -/
  bus : s.bus.wf = true
  video : VideoInv s
  audio : AudioInv s
  consumer : ConsumerInv s

/-- What the emulation agent can see of a state: all of it but the callback agent's own part and whose turn it is
(60_exceptions.md R387, 70_reset_and_hazards.md R448). -/
def State.emulationView (s : State) : State :=
  { s with
    ring := { s.ring with rcur := 0 }
    callback := { pull := none, returned := [], unseen := [] }
    agenda := [] }

end Sys2Proof.Machine
end

