-- ==== Sys2Proof/Certificates/Slice0/Obligations.lean ====
section
/-! DEFINITION. The statements for the provers, one `def Obligations.<Name> : Prop` each, listed in OBLIGATIONS.json.

Before them stand the words they are written in. A form of an instruction is written out here from spec/30_encoding.md R125 (its
instruction, opcode, operand, length, base cycles, and the mark "+1 if page crossed"), not taken from the model's own table. Flags and
results are read as numbers. -/

namespace Sys2Proof.Claims

open Sys2Proof.Machine

/-- One addressing form of an instruction, as 30_encoding.md R125 lists it. -/
structure Form where
  instr : Instr
  opcode : Byte
  operand : Operand
  length : Nat
  cost : Nat
  penalty : Bool

def ldaForms (b : Byte) (w : Word) : List Form :=
  [⟨.ldaIndX b, 0xA1, .indirectX b, 2, 6, false⟩, ⟨.ldaZp b, 0xA5, .zeroPage b, 2, 3, false⟩,
   ⟨.ldaImm b, 0xA9, .immediate b, 2, 2, false⟩, ⟨.ldaAbs w, 0xAD, .absolute w, 3, 4, false⟩,
   ⟨.ldaIndY b, 0xB1, .indirectY b, 2, 5, true⟩, ⟨.ldaZpX b, 0xB5, .zeroPageX b, 2, 4, false⟩,
   ⟨.ldaAbsY w, 0xB9, .absoluteY w, 3, 4, true⟩, ⟨.ldaAbsX w, 0xBD, .absoluteX w, 3, 4, true⟩]

def ldxForms (b : Byte) (w : Word) : List Form :=
  [⟨.ldxImm b, 0xA2, .immediate b, 2, 2, false⟩, ⟨.ldxZp b, 0xA6, .zeroPage b, 2, 3, false⟩,
   ⟨.ldxAbs w, 0xAE, .absolute w, 3, 4, false⟩, ⟨.ldxZpY b, 0xB6, .zeroPageY b, 2, 4, false⟩,
   ⟨.ldxAbsY w, 0xBE, .absoluteY w, 3, 4, true⟩]

def ldyForms (b : Byte) (w : Word) : List Form :=
  [⟨.ldyImm b, 0xA0, .immediate b, 2, 2, false⟩, ⟨.ldyZp b, 0xA4, .zeroPage b, 2, 3, false⟩,
   ⟨.ldyAbs w, 0xAC, .absolute w, 3, 4, false⟩, ⟨.ldyZpX b, 0xB4, .zeroPageX b, 2, 4, false⟩,
   ⟨.ldyAbsX w, 0xBC, .absoluteX w, 3, 4, true⟩]

def staForms (b : Byte) (w : Word) : List Form :=
  [⟨.staIndX b, 0x81, .indirectX b, 2, 6, false⟩, ⟨.staZp b, 0x85, .zeroPage b, 2, 3, false⟩,
   ⟨.staAbs w, 0x8D, .absolute w, 3, 4, false⟩, ⟨.staIndY b, 0x91, .indirectY b, 2, 6, false⟩,
   ⟨.staZpX b, 0x95, .zeroPageX b, 2, 4, false⟩, ⟨.staAbsY w, 0x99, .absoluteY w, 3, 5, false⟩,
   ⟨.staAbsX w, 0x9D, .absoluteX w, 3, 5, false⟩]

def stxForms (b : Byte) (w : Word) : List Form :=
  [⟨.stxZp b, 0x86, .zeroPage b, 2, 3, false⟩, ⟨.stxAbs w, 0x8E, .absolute w, 3, 4, false⟩,
   ⟨.stxZpY b, 0x96, .zeroPageY b, 2, 4, false⟩]

def styForms (b : Byte) (w : Word) : List Form :=
  [⟨.styZp b, 0x84, .zeroPage b, 2, 3, false⟩, ⟨.styAbs w, 0x8C, .absolute w, 3, 4, false⟩,
   ⟨.styZpX b, 0x94, .zeroPageX b, 2, 4, false⟩]

def adcForms (b : Byte) (w : Word) : List Form :=
  [⟨.adcIndX b, 0x61, .indirectX b, 2, 6, false⟩, ⟨.adcZp b, 0x65, .zeroPage b, 2, 3, false⟩,
   ⟨.adcImm b, 0x69, .immediate b, 2, 2, false⟩, ⟨.adcAbs w, 0x6D, .absolute w, 3, 4, false⟩,
   ⟨.adcIndY b, 0x71, .indirectY b, 2, 5, true⟩, ⟨.adcZpX b, 0x75, .zeroPageX b, 2, 4, false⟩,
   ⟨.adcAbsY w, 0x79, .absoluteY w, 3, 4, true⟩, ⟨.adcAbsX w, 0x7D, .absoluteX w, 3, 4, true⟩]

def sbcForms (b : Byte) (w : Word) : List Form :=
  [⟨.sbcIndX b, 0xE1, .indirectX b, 2, 6, false⟩, ⟨.sbcZp b, 0xE5, .zeroPage b, 2, 3, false⟩,
   ⟨.sbcImm b, 0xE9, .immediate b, 2, 2, false⟩, ⟨.sbcAbs w, 0xED, .absolute w, 3, 4, false⟩,
   ⟨.sbcIndY b, 0xF1, .indirectY b, 2, 5, true⟩, ⟨.sbcZpX b, 0xF5, .zeroPageX b, 2, 4, false⟩,
   ⟨.sbcAbsY w, 0xF9, .absoluteY w, 3, 4, true⟩, ⟨.sbcAbsX w, 0xFD, .absoluteX w, 3, 4, true⟩]

def andForms (b : Byte) (w : Word) : List Form :=
  [⟨.andIndX b, 0x21, .indirectX b, 2, 6, false⟩, ⟨.andZp b, 0x25, .zeroPage b, 2, 3, false⟩,
   ⟨.andImm b, 0x29, .immediate b, 2, 2, false⟩, ⟨.andAbs w, 0x2D, .absolute w, 3, 4, false⟩,
   ⟨.andIndY b, 0x31, .indirectY b, 2, 5, true⟩, ⟨.andZpX b, 0x35, .zeroPageX b, 2, 4, false⟩,
   ⟨.andAbsY w, 0x39, .absoluteY w, 3, 4, true⟩, ⟨.andAbsX w, 0x3D, .absoluteX w, 3, 4, true⟩]

def oraForms (b : Byte) (w : Word) : List Form :=
  [⟨.oraIndX b, 0x01, .indirectX b, 2, 6, false⟩, ⟨.oraZp b, 0x05, .zeroPage b, 2, 3, false⟩,
   ⟨.oraImm b, 0x09, .immediate b, 2, 2, false⟩, ⟨.oraAbs w, 0x0D, .absolute w, 3, 4, false⟩,
   ⟨.oraIndY b, 0x11, .indirectY b, 2, 5, true⟩, ⟨.oraZpX b, 0x15, .zeroPageX b, 2, 4, false⟩,
   ⟨.oraAbsY w, 0x19, .absoluteY w, 3, 4, true⟩, ⟨.oraAbsX w, 0x1D, .absoluteX w, 3, 4, true⟩]

def eorForms (b : Byte) (w : Word) : List Form :=
  [⟨.eorIndX b, 0x41, .indirectX b, 2, 6, false⟩, ⟨.eorZp b, 0x45, .zeroPage b, 2, 3, false⟩,
   ⟨.eorImm b, 0x49, .immediate b, 2, 2, false⟩, ⟨.eorAbs w, 0x4D, .absolute w, 3, 4, false⟩,
   ⟨.eorIndY b, 0x51, .indirectY b, 2, 5, true⟩, ⟨.eorZpX b, 0x55, .zeroPageX b, 2, 4, false⟩,
   ⟨.eorAbsY w, 0x59, .absoluteY w, 3, 4, true⟩, ⟨.eorAbsX w, 0x5D, .absoluteX w, 3, 4, true⟩]

def cmpForms (b : Byte) (w : Word) : List Form :=
  [⟨.cmpIndX b, 0xC1, .indirectX b, 2, 6, false⟩, ⟨.cmpZp b, 0xC5, .zeroPage b, 2, 3, false⟩,
   ⟨.cmpImm b, 0xC9, .immediate b, 2, 2, false⟩, ⟨.cmpAbs w, 0xCD, .absolute w, 3, 4, false⟩,
   ⟨.cmpIndY b, 0xD1, .indirectY b, 2, 5, true⟩, ⟨.cmpZpX b, 0xD5, .zeroPageX b, 2, 4, false⟩,
   ⟨.cmpAbsY w, 0xD9, .absoluteY w, 3, 4, true⟩, ⟨.cmpAbsX w, 0xDD, .absoluteX w, 3, 4, true⟩]

def cpxForms (b : Byte) (w : Word) : List Form :=
  [⟨.cpxImm b, 0xE0, .immediate b, 2, 2, false⟩, ⟨.cpxZp b, 0xE4, .zeroPage b, 2, 3, false⟩,
   ⟨.cpxAbs w, 0xEC, .absolute w, 3, 4, false⟩]

def cpyForms (b : Byte) (w : Word) : List Form :=
  [⟨.cpyImm b, 0xC0, .immediate b, 2, 2, false⟩, ⟨.cpyZp b, 0xC4, .zeroPage b, 2, 3, false⟩,
   ⟨.cpyAbs w, 0xCC, .absolute w, 3, 4, false⟩]

def bitForms (b : Byte) (w : Word) : List Form :=
  [⟨.bitZp b, 0x24, .zeroPage b, 2, 3, false⟩, ⟨.bitAbs w, 0x2C, .absolute w, 3, 4, false⟩]

def aslForms (b : Byte) (w : Word) : List Form :=
  [⟨.aslZp b, 0x06, .zeroPage b, 2, 5, false⟩, ⟨.aslAbs w, 0x0E, .absolute w, 3, 6, false⟩,
   ⟨.aslZpX b, 0x16, .zeroPageX b, 2, 6, false⟩, ⟨.aslAbsX w, 0x1E, .absoluteX w, 3, 7, false⟩]

def lsrForms (b : Byte) (w : Word) : List Form :=
  [⟨.lsrZp b, 0x46, .zeroPage b, 2, 5, false⟩, ⟨.lsrAbs w, 0x4E, .absolute w, 3, 6, false⟩,
   ⟨.lsrZpX b, 0x56, .zeroPageX b, 2, 6, false⟩, ⟨.lsrAbsX w, 0x5E, .absoluteX w, 3, 7, false⟩]

def rolForms (b : Byte) (w : Word) : List Form :=
  [⟨.rolZp b, 0x26, .zeroPage b, 2, 5, false⟩, ⟨.rolAbs w, 0x2E, .absolute w, 3, 6, false⟩,
   ⟨.rolZpX b, 0x36, .zeroPageX b, 2, 6, false⟩, ⟨.rolAbsX w, 0x3E, .absoluteX w, 3, 7, false⟩]

def rorForms (b : Byte) (w : Word) : List Form :=
  [⟨.rorZp b, 0x66, .zeroPage b, 2, 5, false⟩, ⟨.rorAbs w, 0x6E, .absolute w, 3, 6, false⟩,
   ⟨.rorZpX b, 0x76, .zeroPageX b, 2, 6, false⟩, ⟨.rorAbsX w, 0x7E, .absoluteX w, 3, 7, false⟩]

def incForms (b : Byte) (w : Word) : List Form :=
  [⟨.incZp b, 0xE6, .zeroPage b, 2, 5, false⟩, ⟨.incAbs w, 0xEE, .absolute w, 3, 6, false⟩,
   ⟨.incZpX b, 0xF6, .zeroPageX b, 2, 6, false⟩, ⟨.incAbsX w, 0xFE, .absoluteX w, 3, 7, false⟩]

def decForms (b : Byte) (w : Word) : List Form :=
  [⟨.decZp b, 0xC6, .zeroPage b, 2, 5, false⟩, ⟨.decAbs w, 0xCE, .absolute w, 3, 6, false⟩,
   ⟨.decZpX b, 0xD6, .zeroPageX b, 2, 6, false⟩, ⟨.decAbsX w, 0xDE, .absoluteX w, 3, 7, false⟩]

def jmpForms (w : Word) : List Form :=
  [⟨.jmpAbs w, 0x4C, .absolute w, 3, 3, false⟩, ⟨.jmpInd w, 0x6C, .indirect w, 3, 5, false⟩]

/-- `SetNZ(v)` on numbers: Z iff `v = 0`, N iff `v ≥ 0x80` (40_execute_cycle.md R149). -/
def nz (v : Byte) (p : Flags) : Flags := { p with n := decide (128 ≤ v.toNat), z := decide (v.toNat = 0) }

/-- `i` is encoded with the opcode byte `op`, and from `s` it answers `t`. -/
def Runs (op : Byte) (i : Instr) (s t : State) : Prop := (encode i).head? = some op ∧ exec i s = .next t

/-- The end of a form that does not redirect: registers `cpu`, bus `bus`, the pc past the instruction (40_execute_cycle.md R146), its
cycles (R147); every other part of the state is that of `s`. -/
def Form.done (f : Form) (s : State) (cpu : Cpu) (bus : Memory) : State :=
  { s with
    cpu := { cpu with pc := s.cpu.pc + BitVec.ofNat 16 f.length }
    bus := bus
    cycles := f.cost + (if f.penalty && crossed f.operand s then 1 else 0) }

/-- The end of an instruction of one byte that does not redirect, at `c` cycles. -/
def done1 (s : State) (cpu : Cpu) (bus : Memory) (c : Nat) : State :=
  { s with cpu := { cpu with pc := s.cpu.pc + 1 }, bus := bus, cycles := c }

/-- The end of an instruction that redirects to `t`, at `c` cycles. -/
def goTo (s : State) (cpu : Cpu) (bus : Memory) (t : Word) (c : Nat) : State :=
  { s with cpu := { cpu with pc := t }, bus := bus, cycles := c }

/-- The address of the stack page byte that SP value `v` names: `0x0100 + v` (10_state.md R23). -/
def inStackPage (v : Byte) : Word := BitVec.ofNat 16 (256 + v.toNat)

/-- A carry flag as a number. -/
def c01 (p : Flags) : Nat := if p.c then 1 else 0

/-- The flags and A after ADC (42_arith_logic.md R200, R201): the sum as an unsigned number and as a signed one. -/
def afterAdc (m : Byte) (cpu : Cpu) : Cpu :=
  let u := cpu.a.toNat + m.toNat + c01 cpu.p
  let t := cpu.a.toInt + m.toInt + c01 cpu.p
  { cpu with
    a := BitVec.ofNat 8 (u % 256)
    p := nz (BitVec.ofNat 8 (u % 256)) { cpu.p with c := decide (255 < u), v := decide (t < -128 ∨ 127 < t) } }

/-- The flags and A after SBC (42_arith_logic.md R202): `A - M - (1 - C)`, C for no borrow. -/
def afterSbc (m : Byte) (cpu : Cpu) : Cpu :=
  let borrow := 1 - c01 cpu.p
  let r := BitVec.ofInt 8 ((cpu.a.toNat : Int) - m.toNat - borrow)
  let t := cpu.a.toInt - m.toInt - borrow
  { cpu with
    a := r
    p := nz r { cpu.p with c := decide (m.toNat + borrow ≤ cpu.a.toNat), v := decide (t < -128 ∨ 127 < t) } }

/-- The flags after a compare of `r` with `m` (42_arith_logic.md R206). -/
def afterCompare (r m : Byte) (p : Flags) : Flags :=
  { p with
    z := decide (r = m)
    c := decide (m.toNat ≤ r.toNat)
    n := decide (128 ≤ ((r.toNat : Int) - m.toNat) % 256) }

/-- The six shift and rotate results on numbers: the byte written and the new carry, from the byte `v` and the old carry `c`
(43_shift_incdec.md R231 to R234). -/
def aslNat (v _c : Nat) : Nat × Bool := (2 * v % 256, decide (128 ≤ v))
def lsrNat (v _c : Nat) : Nat × Bool := (v / 2, decide (v % 2 = 1))
def rolNat (v c : Nat) : Nat × Bool := ((2 * v + c) % 256, decide (128 ≤ v))
def rorNat (v c : Nat) : Nat × Bool := (v / 2 + 128 * c, decide (v % 2 = 1))

/-- The flags after a shift or rotate of `v`: C the bit shifted out, N and Z from the result. -/
def afterShift (f : Nat → Nat → Nat × Bool) (v : Byte) (p : Flags) : Flags :=
  nz (BitVec.ofNat 8 (f v.toNat (c01 p)).1) { p with c := (f v.toNat (c01 p)).2 }

/-- The byte a shift or rotate of `v` writes back. -/
def shiftedByte (f : Nat → Nat → Nat × Bool) (v : Byte) (p : Flags) : Byte := BitVec.ofNat 8 (f v.toNat (c01 p)).1

/-- The accumulator form of a shift or rotate is `i`, and its result is `f`'s: 1 byte, 2 cycles. -/
def ShiftsA (op : Byte) (i : Instr) (f : Nat → Nat → Nat × Bool) (s : State) : Prop :=
  Runs op i s (done1 s
    { s.cpu with a := shiftedByte f s.cpu.a s.cpu.p, p := afterShift f s.cpu.a s.cpu.p } s.bus 2)

/-- Every form of `fs` reads `EA` once and writes `f`'s result there. -/
def ShiftsMemory (fs : List Form) (f : Nat → Nat → Nat × Bool) (s : State) : Prop :=
  ∀ g ∈ fs, Runs g.opcode g.instr s (g.done s
    { s.cpu with p := afterShift f (s.read (ea g.operand s)) s.cpu.p }
    (s.bus.write (ea g.operand s) (shiftedByte f (s.read (ea g.operand s)) s.cpu.p)))

/-- Every form of `fs` adds `k` to the byte at `EA` modulo 256, sets N and Z, and leaves C and V. -/
def StepsMemory (fs : List Form) (k : Nat) (s : State) : Prop :=
  ∀ g ∈ fs,
    let r := BitVec.ofNat 8 (((s.read (ea g.operand s)).toNat + k) % 256)
    Runs g.opcode g.instr s (g.done s { s.cpu with p := nz r s.cpu.p } (s.bus.write (ea g.operand s) r))

/-- A byte plus `k` modulo 256. -/
def plus (v : Byte) (k : Nat) : Byte := BitVec.ofNat 8 ((v.toNat + k) % 256)

/-- The target of a branch with offset `r` (30_encoding.md R112), in integers. -/
def target (r : Byte) (s : State) : Word := BitVec.ofInt 16 ((s.cpu.pc.toNat : Int) + 2 + r.toInt)

/-- `i` branches with offset `r` exactly when `cond` holds: 2 cycles not taken, 3 taken to the page of the next instruction, 4 to another
(44_control_flow.md R265). -/
def BranchesIf (op : Byte) (i : Instr) (cond : Bool) (r : Byte) (s : State) : Prop :=
  Runs op i s (
    if cond then goTo s s.cpu s.bus (target r s)
      (if (s.cpu.pc + 2).toNat / 256 = (target r s).toNat / 256 then 3 else 4)
    else goTo s s.cpu s.bus (s.cpu.pc + 2) 2)

/-- The instruction whose bytes begin at the pc (20_memory.md R66). -/
def bytesAtPc (s : State) : List Byte := [s.read s.cpu.pc, s.read (s.cpu.pc + 1), s.read (s.cpu.pc + 2)]

/-- The mnemonics whose instructions write register `r` (10_state.md R21); the shifts and rotates write A in their accumulator form
alone. -/
def registerWriters : Reg → List Mnemonic
  | .A => [.LDA, .TXA, .TYA, .PLA, .ADC, .SBC, .AND, .ORA, .EOR, .ASL, .LSR, .ROL, .ROR]
  | .X => [.LDX, .TAX, .TSX, .INX, .DEX]
  | .Y => [.LDY, .TAY, .INY, .DEY]
  | .SP => [.TXS, .PHA, .PHP, .PLA, .PLP, .JSR, .RTS, .RTI, .BRK]

/-- The mnemonics whose instructions write N and Z (10_state.md R28). -/
def nzWriters : List Mnemonic :=
  [.LDA, .LDX, .LDY, .TAX, .TAY, .TXA, .TYA, .TSX, .PLA, .ADC, .SBC, .AND, .ORA, .EOR, .CMP, .CPX, .CPY, .BIT] ++
    [.ASL, .LSR, .ROL, .ROR, .INC, .DEC, .INX, .INY, .DEX, .DEY, .PLP, .RTI]

/-- The mnemonics whose instructions write C, V, I, D (10_state.md R28). -/
def cWriters : List Mnemonic := [.ADC, .SBC, .CMP, .CPX, .CPY, .ASL, .LSR, .ROL, .ROR, .CLC, .SEC, .PLP, .RTI]
def vWriters : List Mnemonic := [.ADC, .SBC, .BIT, .CLV, .PLP, .RTI]
def iWriters : List Mnemonic := [.CLI, .SEI, .PLP, .RTI, .BRK]
def dWriters : List Mnemonic := [.CLD, .SED, .PLP, .RTI]

/-- The mnemonics that store to memory in some form; the shifts and rotates in their memory forms alone (43_shift_incdec.md R230). -/
def storers : List Mnemonic :=
  [.STA, .STX, .STY, .ASL, .LSR, .ROL, .ROR, .INC, .DEC, .PHA, .PHP, .JSR, .BRK]

/-- Every form that stores one byte at its effective address: the stores and the read-modify-write forms. -/
def storingForms (b : Byte) (w : Word) : List Form :=
  staForms b w ++ stxForms b w ++ styForms b w ++ aslForms b w ++ lsrForms b w ++ rolForms b w ++ rorForms b w ++
    incForms b w ++ decForms b w

/-- P.D replaced by `b`. -/
def withD (b : Bool) (s : State) : State := { s with cpu := { s.cpu with p := { s.cpu.p with d := b } } }

/-- The video unit's fields agree with each other: `ppuCycle` in range, `scanline` and `vstate` computed from it (10_state.md R34). -/
def VideoAgrees (s : State) : Prop :=
  s.video.ppuCycle < 89342 ∧ s.video.scanline = s.video.ppuCycle / 341 ∧ s.video.vstate = stateOf s.video.scanline

/-- The bulk form of `VideoAdvance` (60_exceptions.md R368): add, wrap by subtracting a frame, recompute the scanline, test the state. -/
def bulkAdvance (c : Nat) (s : State) : State :=
  let sum := s.video.ppuCycle + 3 * c
  let wrapped := if 89342 ≤ sum then sum - 89342 else sum
  let v := stateOf (wrapped / 341)
  let t := { s with video := { s.video with ppuCycle := wrapped, scanline := wrapped / 341, vstate := v } }
  if s.video.vstate = .visible ∧ v = .vblankActive then vblankStart t
  else if s.video.vstate = .vblankActive ∧ v = .vblankDone then vblankEnd t
  else t

/-- The bus bytes the audio unit reads (60_exceptions.md R376); R377 counts nine of them, R376 lists eight (notes/assumptions/22.md). -/
def audioRegisters : List Word := [0x4000, 0x4002, 0x4003, 0x4004, 0x4006, 0x4007, 0x400A, 0x400B]

/-- A channel's period in numbers: bits 2:0 of its high byte above its low byte (60_exceptions.md R376). -/
def periodNat (s : State) (loAddr hiAddr : Word) : Nat := 256 * ((s.read hiAddr).toNat % 8) + (s.read loAddr).toNat

/-- A pulse channel's duty in numbers: bits 7:6 of its byte (60_exceptions.md R376). -/
def dutyNat (s : State) (addr : Word) : Nat := (s.read addr).toNat / 64

/-- Where sample `n` stands in a waveform of `steps` steps that lasts `divider × (p + 1)` CPU cycles (60_exceptions.md R379, R381). -/
def stepNat (g : Config) (steps divider n p : Nat) : Nat :=
  steps * (n * g.cpuClockHz % (g.sampleRateHz * divider * (p + 1))) / (g.sampleRateHz * divider * (p + 1))

/-- The steps of a pulse at which 60_exceptions.md R380 lists a 1, for each duty: 12.5%, 25%, 50%, and 25% negated. -/
def pulseHigh : Nat → Nat → Bool
  | 0, step => step == 1
  | 1, step => step == 1 || step == 2
  | 2, step => decide (1 ≤ step ∧ step ≤ 4)
  | _, step => !(step == 1 || step == 2)

/-- What 60_exceptions.md R381 lists at a step of the triangle: down from 15 to 0, then up from 0 to 15. -/
def triangleLevel (step : Nat) : Nat := if step < 16 then 15 - step else step - 16

/-- What a pulse channel of period `p` and duty `d` yields for sample `n` (60_exceptions.md R379). -/
def pulseNat (g : Config) (n p d : Nat) : Nat := if p = 0 then 0 else if pulseHigh d (stepNat g 8 16 n p) then 1 else 0

/-- What the triangle channel of period `p` yields for sample `n` (60_exceptions.md R381). -/
def triangleNat (g : Config) (n p : Nat) : Nat := if p = 0 then 0 else triangleLevel (stepNat g 32 32 n p)

/-- An instruction that stores: the bytes it stores with their addresses, the latest store first, and where the next instruction is. -/
structure Storing where
  instr : Instr
  stored : List (Word × Byte)
  next : Word

/-- The byte at `c` when `ws`, the latest first, have been stored over `s`. -/
def byteAfter (s : State) : List (Word × Byte) → Word → Byte
  | [], c => s.read c
  | (a, v) :: ws, c => if c = a then v else byteAfter s ws c

/-- A form that stores at its effective address `a` the byte `v a`. -/
def Form.storing (s : State) (v : Word → Byte) (f : Form) : Storing :=
  ⟨f.instr, [(ea f.operand s, v (ea f.operand s))], s.cpu.pc + BitVec.ofNat 16 f.length⟩

/-- Every instruction that stores, in every form: the stores, the read-modify-write forms, and the pushing instructions. -/
def everyStoring (s : State) (b : Byte) (w : Word) : List Storing :=
  (staForms b w).map (Form.storing s fun _ => s.cpu.a) ++
  (stxForms b w).map (Form.storing s fun _ => s.cpu.x) ++
  (styForms b w).map (Form.storing s fun _ => s.cpu.y) ++
  (aslForms b w).map (Form.storing s fun a => shiftedByte aslNat (s.read a) s.cpu.p) ++
  (lsrForms b w).map (Form.storing s fun a => shiftedByte lsrNat (s.read a) s.cpu.p) ++
  (rolForms b w).map (Form.storing s fun a => shiftedByte rolNat (s.read a) s.cpu.p) ++
  (rorForms b w).map (Form.storing s fun a => shiftedByte rorNat (s.read a) s.cpu.p) ++
  (incForms b w).map (Form.storing s fun a => plus (s.read a) 1) ++
  (decForms b w).map (Form.storing s fun a => plus (s.read a) 255) ++
  [⟨.pha, [(inStackPage s.cpu.sp, s.cpu.a)], s.cpu.pc + 1⟩,
   ⟨.php, [(inStackPage s.cpu.sp, packP true s.cpu.p)], s.cpu.pc + 1⟩,
   ⟨.jsr w, [(inStackPage (s.cpu.sp - 1), lo (s.cpu.pc + 2)), (inStackPage s.cpu.sp, hi (s.cpu.pc + 2))], w⟩,
   ⟨.brk, [(inStackPage (s.cpu.sp - 2), packP true s.cpu.p), (inStackPage (s.cpu.sp - 1), lo (s.cpu.pc + 2)),
      (inStackPage s.cpu.sp, hi (s.cpu.pc + 2))], word (s.read 0xFFFF) (s.read 0xFFFE)⟩]

end Sys2Proof.Claims

open Sys2Proof Sys2Proof.Machine Sys2Proof.Claims

/-! ## Encoding and decoding -/

/-- O1. Decoding an encoded well-formed instruction gives it back, with every operand at every value and whatever bytes follow. -/
def Obligations.DecodeOfEncodeIsTheInstruction : Prop :=
  ∀ (i : Instr), i.wf = true → ∀ rest : List Byte, decode (encode i ++ rest) = .ok (i, rest)

/-- O2. What the decoder reads from three bytes is well-formed, and encoding it gives back the bytes it took: the opcode byte and the
operand bytes of its mode (30_encoding.md R100, R102). -/
def Obligations.DecodedBytesEncodeBack : Prop :=
  ∀ op b1 b2 : Byte,
    (decodeBytes op b1 b2).wf = true ∧
    encode (decodeBytes op b1 b2) = [op, b1, b2].take (1 + (decodeBytes op b1 b2).row.mode.operandLength)

/-- O3. A byte is an unknown opcode exactly when 30_encoding.md R120 lists it; there are 105 of them and 151 known opcodes (R118). -/
def Obligations.UnknownOpcodesAreTheListedBytes : Prop :=
  (∀ op b1 b2 : Byte, (decodeBytes op b1 b2).row.mnemonic = .UNKNOWN ↔ op ∈ unknownBytes) ∧
    unknownBytes.Nodup ∧ unknownBytes.length = 105 ∧ unknownBytes.length + 151 = 2 ^ 8

/-- O4. Words written out from 30_encoding.md R125 decode to the instructions they stand for, one a family and format. -/
def Obligations.WordsFromTheListingDecode : Prop :=
  decode [0xA9, 0x05] = .ok (.ldaImm 0x05, []) ∧ decode [0x9D, 0xF0, 0x12] = .ok (.staAbsX 0x12F0, []) ∧
  decode [0xBA] = .ok (.tsx, []) ∧ decode [0x61, 0x20] = .ok (.adcIndX 0x20, []) ∧
  decode [0x2C, 0x02, 0x20] = .ok (.bitAbs 0x2002, []) ∧ decode [0x0A] = .ok (.aslAcc, []) ∧
  decode [0xD6, 0x10] = .ok (.decZpX 0x10, []) ∧ decode [0x6C, 0xFF, 0x10] = .ok (.jmpInd 0x10FF, []) ∧
  decode [0x20, 0x00, 0x90] = .ok (.jsr 0x9000, []) ∧ decode [0xD0, 0xFD] = .ok (.bne 0xFD, []) ∧
  decode [0x00] = .ok (.brk, []) ∧ decode [0x28] = .ok (.plp, []) ∧ decode [0xF8] = .ok (.sed, []) ∧
  decode [0x89] = .ok (.unknown 0x89, [])

/-! ## Addressing modes -/

/-- O5. The effective address of every mode, in numbers (30_encoding.md R104 to R111): zero-page sums and pointers wrap in page 0, 16-bit
sums wrap modulo 65,536, and the JMP pointer does not wrap in its page. And the operand value: the immediate byte itself, else the
byte at that address (R113). -/
def Obligations.EffectiveAddressOfEveryMode : Prop :=
  ∀ (s : State) (b : Byte) (w : Word),
    let pointer (p : Nat) : Word := word (s.read (BitVec.ofNat 16 ((p + 1) % 256))) (s.read (BitVec.ofNat 16 (p % 256)))
    (ea (.immediate b) s).toNat = (s.cpu.pc.toNat + 1) % 65536 ∧
    (ea (.zeroPage b) s).toNat = b.toNat ∧
    (ea (.zeroPageX b) s).toNat = (b.toNat + s.cpu.x.toNat) % 256 ∧
    (ea (.zeroPageY b) s).toNat = (b.toNat + s.cpu.y.toNat) % 256 ∧
    ea (.absolute w) s = w ∧
    (ea (.absoluteX w) s).toNat = (w.toNat + s.cpu.x.toNat) % 65536 ∧
    (ea (.absoluteY w) s).toNat = (w.toNat + s.cpu.y.toNat) % 65536 ∧
    ea (.indirectX b) s = pointer (b.toNat + s.cpu.x.toNat) ∧
    (ea (.indirectY b) s).toNat = ((pointer b.toNat).toNat + s.cpu.y.toNat) % 65536 ∧
    ea (.indirect w) s = word (s.read (BitVec.ofNat 16 ((w.toNat + 1) % 65536))) (s.read w) ∧
    value (.immediate b) s = b ∧
    ∀ o ∈ [Operand.zeroPage b, .zeroPageX b, .zeroPageY b, .absolute w, .absoluteX w, .absoluteY w, .indirectX b,
        .indirectY b, .indirect w], value o s = s.read (ea o s)

/-- O6. A page is crossed in the modes AbsoluteX, AbsoluteY and IndirectY alone, when the high byte of the base differs from that of the
effective address (30_encoding.md R108, R110). -/
def Obligations.PageCrossedWhenHighBytesDiffer : Prop :=
  ∀ (s : State) (b : Byte) (w : Word),
    crossed (.absoluteX w) s = decide (w.toNat / 256 ≠ (w.toNat + s.cpu.x.toNat) % 65536 / 256) ∧
    crossed (.absoluteY w) s = decide (w.toNat / 256 ≠ (w.toNat + s.cpu.y.toNat) % 65536 / 256) ∧
    (let base := (word (s.read (BitVec.ofNat 16 ((b.toNat + 1) % 256))) (s.read (BitVec.ofNat 16 b.toNat))).toNat
     crossed (.indirectY b) s = decide (base / 256 ≠ (base + s.cpu.y.toNat) % 65536 / 256)) ∧
    ∀ o ∈ [Operand.immediate b, .zeroPage b, .zeroPageX b, .zeroPageY b, .absolute w, .indirectX b, .indirect w],
      crossed o s = false

/-! ## One step -/

/-- O7. With no other turn, no pending NMI and no accepted IRQ, a step runs the instruction whose bytes begin at the pc, and then ends the
tick. `agenda` and `lookBack 0`, which changes the callback agent's own part alone, are the model's choice (notes/assumptions/6.md, 8.md). -/
def Obligations.StepRunsTheDecodedInstruction : Prop :=
  ∀ (s t : State) (i : Instr) (rest : List Byte),
    (s.agenda = [] ∨ ∃ more, s.agenda = .emulation :: more) → s.nmiRequest = false →
    (s.cpu.p.i = true ∨ irqLevel s = false) → decode (bytesAtPc s) = .ok (i, rest) →
    exec i (lookBack 0 { s with agenda := s.agenda.tail }) = .next t → step s = .next (endTick t)

/-- O8. The order of a tick (60_exceptions.md R341, R328): a pending NMI is entered whatever P.I holds, with no IRQ check; otherwise an
IRQ when the line is true and P.I is 0; its cycles are fed; then one instruction runs, its cycles are fed, and the tick is counted.
`agenda` and `lookBack 0` are the model's choice (notes/assumptions/6.md, 8.md). -/
def Obligations.TickTakesOneInterruptThenOneInstruction : Prop :=
  ∀ s : State, s.agenda = [] →
    let r := lookBack 0 s
    let u :=
      if s.nmiRequest = true then feed 7 (nmiEntry { r with nmiRequest := false })
      else if irqLevel s = true ∧ s.cpu.p.i = false then feed 7 (irqEntry r)
      else r
    ∃ t, exec (fetch u) u = .next t ∧
      step s = .next { feed t.cycles t with
        sched := { (feed t.cycles t).sched with tickCount := (feed t.cycles t).sched.tickCount + 1 } }

/-- O9. Every tick is counted and advances `totalCycles`, by at least one cycle and by no more than an interrupt entry and the longest
instruction or the unknown-opcode penalty (40_execute_cycle.md R155, 60_exceptions.md R330, R341, R342). -/
def Obligations.EveryTickCountsAndAdvancesTime : Prop :=
  ∀ s t : State, s.config.wf = true → tick s = .next t →
    t.sched.tickCount = s.sched.tickCount + 1 ∧ s.sched.totalCycles < t.sched.totalCycles ∧
    t.sched.totalCycles ≤ s.sched.totalCycles + 7 + max 7 s.config.unknownOpcodeCycles

/-- O10. Every step of the machine, from every state, answers a next state (40_execute_cycle.md R140); that a step is a turn of either agent
is the model's choice (notes/assumptions/6.md). -/
def Obligations.EveryStepAnswersANextState : Prop := ∀ s : State, ∃ t : State, step s = .next t

/-- O11. Every instruction answers a next state from every state, and its cycle count is at least 2 and at most 7 when its opcode is
known, and `UNKNOWN_OPCODE_CYCLES`, at least 1, when it is not (40_execute_cycle.md R140, R155). -/
def Obligations.EveryInstructionCompletesInBoundedCycles : Prop :=
  ∀ (i : Instr) (s : State), s.config.wf = true →
    ∃ t, exec i s = .next t ∧
      (i.row.mnemonic ≠ .UNKNOWN → 2 ≤ t.cycles ∧ t.cycles ≤ 7) ∧
      (i.row.mnemonic = .UNKNOWN → t.cycles = s.config.unknownOpcodeCycles ∧ 1 ≤ t.cycles)

/-- O12. NOP moves the pc past its byte in 2 cycles, an unknown opcode past its byte in `UNKNOWN_OPCODE_CYCLES`; nothing else changes
(44_control_flow.md R274, 40_execute_cycle.md R144). -/
def Obligations.NopAndUnknownOpcodesOnlyAdvance : Prop :=
  ∀ (s : State) (op : Byte),
    Runs 0xEA .nop s (done1 s s.cpu s.bus 2) ∧
    Runs op (.unknown op) s (done1 s s.cpu s.bus s.config.unknownOpcodeCycles)

/-! ## Loads, stores and transfers -/

/-- O13. LDA, LDX and LDY in every form: the register is M, N and Z follow M, the cycles are the listing's, nothing else changes. -/
def Obligations.LoadsSetRegisterAndNZ : Prop :=
  ∀ (s : State) (b : Byte) (w : Word),
    (∀ f ∈ ldaForms b w, Runs f.opcode f.instr s (f.done s
      { s.cpu with a := value f.operand s, p := nz (value f.operand s) s.cpu.p } s.bus)) ∧
    (∀ f ∈ ldxForms b w, Runs f.opcode f.instr s (f.done s
      { s.cpu with x := value f.operand s, p := nz (value f.operand s) s.cpu.p } s.bus)) ∧
    (∀ f ∈ ldyForms b w, Runs f.opcode f.instr s (f.done s
      { s.cpu with y := value f.operand s, p := nz (value f.operand s) s.cpu.p } s.bus))

/-- O14. STA, STX and STY in every form: the register is written at the effective address, no flag changes, the cost is fixed. -/
def Obligations.StoresWriteRegisterAtEffectiveAddress : Prop :=
  ∀ (s : State) (b : Byte) (w : Word),
    (∀ f ∈ staForms b w, Runs f.opcode f.instr s (f.done s s.cpu (s.bus.write (ea f.operand s) s.cpu.a)) ∧
      f.penalty = false) ∧
    (∀ f ∈ stxForms b w, Runs f.opcode f.instr s (f.done s s.cpu (s.bus.write (ea f.operand s) s.cpu.x)) ∧
      f.penalty = false) ∧
    (∀ f ∈ styForms b w, Runs f.opcode f.instr s (f.done s s.cpu (s.bus.write (ea f.operand s) s.cpu.y)) ∧
      f.penalty = false)

/-- O15. TAX, TAY, TXA, TYA and TSX copy a register and set N and Z; TXS copies X to SP and writes no flag. -/
def Obligations.TransfersCopyRegister : Prop :=
  ∀ s : State,
    Runs 0xAA .tax s (done1 s { s.cpu with x := s.cpu.a, p := nz s.cpu.a s.cpu.p } s.bus 2) ∧
    Runs 0xA8 .tay s (done1 s { s.cpu with y := s.cpu.a, p := nz s.cpu.a s.cpu.p } s.bus 2) ∧
    Runs 0x8A .txa s (done1 s { s.cpu with a := s.cpu.x, p := nz s.cpu.x s.cpu.p } s.bus 2) ∧
    Runs 0x98 .tya s (done1 s { s.cpu with a := s.cpu.y, p := nz s.cpu.y s.cpu.p } s.bus 2) ∧
    Runs 0xBA .tsx s (done1 s { s.cpu with x := s.cpu.sp, p := nz s.cpu.sp s.cpu.p } s.bus 2) ∧
    Runs 0x9A .txs s (done1 s { s.cpu with sp := s.cpu.x } s.bus 2)

/-! ## Arithmetic, logic, compare and bit test -/

/-- O16. ADC in every form: the sum modulo 256, C the unsigned carry out, V the signed sum out of range, whatever D holds. -/
def Obligations.AdcAddsWithCarryAndSignedOverflow : Prop :=
  ∀ (s : State) (b : Byte) (w : Word), ∀ f ∈ adcForms b w,
    Runs f.opcode f.instr s (f.done s (afterAdc (value f.operand s) s.cpu) s.bus)

/-- O17. SBC in every form: `A - M - (1 - C)` modulo 256, C for no borrow, V the signed difference out of range. -/
def Obligations.SbcSubtractsWithBorrow : Prop :=
  ∀ (s : State) (b : Byte) (w : Word), ∀ f ∈ sbcForms b w,
    Runs f.opcode f.instr s (f.done s (afterSbc (value f.operand s) s.cpu) s.bus)

/-- O18. AND, ORA and EOR in every form: A combined bitwise with M, N and Z from the result. -/
def Obligations.LogicCombinesAWithOperand : Prop :=
  ∀ (s : State) (b : Byte) (w : Word),
    (∀ f ∈ andForms b w, Runs f.opcode f.instr s (f.done s
      { s.cpu with a := s.cpu.a &&& value f.operand s, p := nz (s.cpu.a &&& value f.operand s) s.cpu.p } s.bus)) ∧
    (∀ f ∈ oraForms b w, Runs f.opcode f.instr s (f.done s
      { s.cpu with a := s.cpu.a ||| value f.operand s, p := nz (s.cpu.a ||| value f.operand s) s.cpu.p } s.bus)) ∧
    (∀ f ∈ eorForms b w, Runs f.opcode f.instr s (f.done s
      { s.cpu with a := s.cpu.a ^^^ value f.operand s, p := nz (s.cpu.a ^^^ value f.operand s) s.cpu.p } s.bus))

/-- O19. CMP, CPX and CPY in every form: Z iff equal, C iff the register is not below M, N bit 7 of the difference; no register. -/
def Obligations.ComparesSetZCNOnly : Prop :=
  ∀ (s : State) (b : Byte) (w : Word),
    (∀ f ∈ cmpForms b w, Runs f.opcode f.instr s (f.done s
      { s.cpu with p := afterCompare s.cpu.a (value f.operand s) s.cpu.p } s.bus)) ∧
    (∀ f ∈ cpxForms b w, Runs f.opcode f.instr s (f.done s
      { s.cpu with p := afterCompare s.cpu.x (value f.operand s) s.cpu.p } s.bus)) ∧
    (∀ f ∈ cpyForms b w, Runs f.opcode f.instr s (f.done s
      { s.cpu with p := afterCompare s.cpu.y (value f.operand s) s.cpu.p } s.bus))

/-- O20. BIT in both forms: Z iff `A & M` is 0, N and V bits 7 and 6 of M itself. -/
def Obligations.BitTestTakesNAndVFromMemory : Prop :=
  ∀ (s : State) (b : Byte) (w : Word), ∀ f ∈ bitForms b w,
    let m := value f.operand s
    Runs f.opcode f.instr s (f.done s
      { s.cpu with
        p := { s.cpu.p with
          z := decide (s.cpu.a &&& m = 0)
          n := decide (m.toNat / 128 % 2 = 1)
          v := decide (m.toNat / 64 % 2 = 1) } } s.bus)

/-! ## Shifts, rotates, increments and decrements -/

/-- O21. ASL, LSR, ROL and ROR on the accumulator, and in every memory form with one write at the effective address. -/
def Obligations.ShiftsOfAccumulatorAndMemory : Prop :=
  ∀ (s : State) (b : Byte) (w : Word),
    ShiftsA 0x0A .aslAcc aslNat s ∧ ShiftsA 0x4A .lsrAcc lsrNat s ∧ ShiftsA 0x2A .rolAcc rolNat s ∧
    ShiftsA 0x6A .rorAcc rorNat s ∧
    ShiftsMemory (aslForms b w) aslNat s ∧ ShiftsMemory (lsrForms b w) lsrNat s ∧
    ShiftsMemory (rolForms b w) rolNat s ∧ ShiftsMemory (rorForms b w) rorNat s

/-- O22. INC and DEC in every form: the byte at the effective address plus or minus 1 modulo 256; C and V stay. -/
def Obligations.IncAndDecOfMemory : Prop :=
  ∀ (s : State) (b : Byte) (w : Word), StepsMemory (incForms b w) 1 s ∧ StepsMemory (decForms b w) 255 s

/-- O23. INX, INY, DEX and DEY: the register plus or minus 1 modulo 256, N and Z from it. -/
def Obligations.IncAndDecOfRegisters : Prop :=
  ∀ s : State,
    Runs 0xE8 .inx s (done1 s { s.cpu with x := plus s.cpu.x 1, p := nz (plus s.cpu.x 1) s.cpu.p } s.bus 2) ∧
    Runs 0xC8 .iny s (done1 s { s.cpu with y := plus s.cpu.y 1, p := nz (plus s.cpu.y 1) s.cpu.p } s.bus 2) ∧
    Runs 0xCA .dex s (done1 s { s.cpu with x := plus s.cpu.x 255, p := nz (plus s.cpu.x 255) s.cpu.p } s.bus 2) ∧
    Runs 0x88 .dey s (done1 s { s.cpu with y := plus s.cpu.y 255, p := nz (plus s.cpu.y 255) s.cpu.p } s.bus 2)

/-! ## Control transfer -/

/-- O24. JMP goes to its operand, or to the 16-bit value at its operand with the high byte from the next address. -/
def Obligations.JmpGoesToEffectiveAddress : Prop :=
  ∀ (s : State) (w : Word),
    Runs 0x4C (.jmpAbs w) s (goTo s s.cpu s.bus w 3) ∧
    Runs 0x6C (.jmpInd w) s (goTo s s.cpu s.bus (word (s.read (BitVec.ofNat 16 (w.toNat + 1))) (s.read w)) 5)

/-- O25. JSR pushes `pc0 + 2`, high byte first, and goes to its operand. -/
def Obligations.JsrPushesReturnAddressMinusOne : Prop :=
  ∀ (s : State) (w : Word),
    Runs 0x20 (.jsr w) s (goTo s { s.cpu with sp := s.cpu.sp - 2 }
      ((s.bus.write (inStackPage s.cpu.sp) (hi (s.cpu.pc + 2))).write (inStackPage (s.cpu.sp - 1)) (lo (s.cpu.pc + 2)))
      w 6)

/-- O26. RTS pulls the low byte, then the high byte, and goes to the address plus one; after a JSR that is the byte after the JSR, with SP
as before it. -/
def Obligations.RtsGoesToPulledAddressPlusOne : Prop :=
  (∀ s : State,
    Runs 0x60 .rts s (goTo s { s.cpu with sp := s.cpu.sp + 2 } s.bus
      (word (s.read (inStackPage (s.cpu.sp + 2))) (s.read (inStackPage (s.cpu.sp + 1))) + 1) 6)) ∧
  ∀ (s t u : State) (w : Word), s.bus.wf = true → exec (.jsr w) s = .next t → exec .rts t = .next u →
    u.cpu = { s.cpu with pc := s.cpu.pc + 3 }

/-- O27. RTI pulls the status (bits 5 and 4 ignored), then the return address, which is not incremented. -/
def Obligations.RtiRestoresStatusAndAddress : Prop :=
  ∀ s : State,
    let v := s.read (inStackPage (s.cpu.sp + 1))
    Runs 0x40 .rti s (goTo s
      { s.cpu with
        sp := s.cpu.sp + 3
        p := { n := v.getLsbD 7, v := v.getLsbD 6, d := v.getLsbD 3, i := v.getLsbD 2, z := v.getLsbD 1, c := v.getLsbD 0 } }
      s.bus (word (s.read (inStackPage (s.cpu.sp + 3))) (s.read (inStackPage (s.cpu.sp + 2)))) 6)

/-- O28. BRK pushes `pc0 + 2` and the status with B = 1, sets I, leaves the other flags, and goes through the IRQ/BRK vector, 7 cycles.
RTI after it comes back to `pc0 + 2` with the flags and SP as before it. -/
def Obligations.BrkEntersThroughIrqVector : Prop :=
  ∀ s : State, s.bus.wf = true →
    Runs 0x00 .brk s (goTo s { s.cpu with sp := s.cpu.sp - 3, p := { s.cpu.p with i := true } }
      (((s.bus.write (inStackPage s.cpu.sp) (hi (s.cpu.pc + 2))).write
        (inStackPage (s.cpu.sp - 1)) (lo (s.cpu.pc + 2))).write (inStackPage (s.cpu.sp - 2)) (packP true s.cpu.p))
      (word (s.read 0xFFFF) (s.read 0xFFFE)) 7) ∧
    ∀ t u : State, exec .brk s = .next t → exec .rti t = .next u → u.cpu = { s.cpu with pc := s.cpu.pc + 2 }

/-- O29. The eight branches: condition, target and cycles. -/
def Obligations.BranchesFollowTheirFlag : Prop :=
  ∀ (s : State) (r : Byte),
    BranchesIf 0x90 (.bcc r) (!s.cpu.p.c) r s ∧ BranchesIf 0xB0 (.bcs r) s.cpu.p.c r s ∧
    BranchesIf 0xF0 (.beq r) s.cpu.p.z r s ∧ BranchesIf 0xD0 (.bne r) (!s.cpu.p.z) r s ∧
    BranchesIf 0x30 (.bmi r) s.cpu.p.n r s ∧ BranchesIf 0x10 (.bpl r) (!s.cpu.p.n) r s ∧
    BranchesIf 0x50 (.bvc r) (!s.cpu.p.v) r s ∧ BranchesIf 0x70 (.bvs r) s.cpu.p.v r s

/-! ## Stack and flags -/

/-- O30. PHA and PHP write one byte at `0x0100 + SP` and decrement SP; PHP's byte has bits 5 and 4 set. -/
def Obligations.PushesWriteOneByteBelow : Prop :=
  ∀ s : State,
    Runs 0x48 .pha s (done1 s { s.cpu with sp := s.cpu.sp - 1 } (s.bus.write (inStackPage s.cpu.sp) s.cpu.a) 3) ∧
    Runs 0x08 .php s (done1 s { s.cpu with sp := s.cpu.sp - 1 }
      (s.bus.write (inStackPage s.cpu.sp) (packP true s.cpu.p)) 3)

/-- O31. PLA and PLP increment SP and read at `0x0100 + SP`: A with N and Z, or all six flags; the byte stays. -/
def Obligations.PullsReadOneByteAbove : Prop :=
  ∀ s : State,
    let v := s.read (inStackPage (s.cpu.sp + 1))
    Runs 0x68 .pla s (done1 s { s.cpu with a := v, sp := s.cpu.sp + 1, p := nz v s.cpu.p } s.bus 4) ∧
    Runs 0x28 .plp s (done1 s
      { s.cpu with
        sp := s.cpu.sp + 1
        p := { n := v.getLsbD 7, v := v.getLsbD 6, d := v.getLsbD 3, i := v.getLsbD 2, z := v.getLsbD 1, c := v.getLsbD 0 } }
      s.bus 4)

/-- O32. CLC, SEC, CLI, SEI, CLD, SED and CLV write one flag each, in 2 cycles. -/
def Obligations.FlagInstructionsWriteOneFlag : Prop :=
  ∀ s : State,
    Runs 0x18 .clc s (done1 s { s.cpu with p := { s.cpu.p with c := false } } s.bus 2) ∧
    Runs 0x38 .sec s (done1 s { s.cpu with p := { s.cpu.p with c := true } } s.bus 2) ∧
    Runs 0x58 .cli s (done1 s { s.cpu with p := { s.cpu.p with i := false } } s.bus 2) ∧
    Runs 0x78 .sei s (done1 s { s.cpu with p := { s.cpu.p with i := true } } s.bus 2) ∧
    Runs 0xD8 .cld s (done1 s { s.cpu with p := { s.cpu.p with d := false } } s.bus 2) ∧
    Runs 0xF8 .sed s (done1 s { s.cpu with p := { s.cpu.p with d := true } } s.bus 2) ∧
    Runs 0xB8 .clv s (done1 s { s.cpu with p := { s.cpu.p with v := false } } s.bus 2)

/-- O33. The pushed status byte, bit by bit, and unpacking it: the six flags come back whatever B was, and bits 5
and 4 of the byte play no part (10_state.md R26, R27). -/
def Obligations.StatusByteLayoutAndRoundTrip : Prop :=
  ∀ (b : Bool) (p : Flags),
    (packP b p).toNat = 128 * p.n.toNat + 64 * p.v.toNat + 32 + 16 * b.toNat + 8 * p.d.toNat + 4 * p.i.toNat +
      2 * p.z.toNat + p.c.toNat ∧
    unpackP (packP b p) = p ∧
    ∀ v : Byte, unpackP v = unpackP (v &&& 0xCF) ∧ (packP b (unpackP v)).toNat = (v &&& 0xCF).toNat + 32 + 16 * b.toNat

/-- O34. A push then a pull gives the byte back and SP its value, at every SP; between the two only the byte at `0x0100 + SP` differs
(40_execute_cycle.md R150, R151). -/
def Obligations.PullAfterPushGivesTheByteBack : Prop :=
  ∀ (s : State) (v : Byte), s.bus.wf = true →
    (pop (push v s)).value = v ∧ (pop (push v s)).state.cpu = s.cpu ∧
    ∀ c : Word, c ≠ inStackPage s.cpu.sp → (pop (push v s)).state.read c = s.read c

/-- O35. A store is seen by the fetch of the next instruction: after every instruction that stores, in every form, the bytes fetched
next, opcode and operands alike, are those stored where it stored and those that were there elsewhere; and the end of the tick
changes none of them, unless one is the status byte 0x2002 (20_memory.md R77, 70_reset_and_hazards.md R441). -/
def Obligations.StoreIsSeenByTheNextFetch : Prop :=
  ∀ (s : State) (b : Byte) (w : Word), s.bus.wf = true → ∀ x ∈ everyStoring s b w,
    let byte (k : Word) := byteAfter s x.stored (x.next + k)
    ∃ t, exec x.instr s = .next t ∧ fetch t = decodeBytes (byte 0) (byte 1) (byte 2) ∧
      ((∀ k ∈ [(0 : Word), 1, 2], x.next + k ≠ 0x2002) → fetch (endTick t) = fetch t)

/-! ## Interrupts -/

/-- O36. NMI entry and IRQ entry: the pc high then low, the status with B = 0, I set, the pc from the vector, 7 cycles, nothing else
(60_exceptions.md R330, R331, R332). -/
def Obligations.InterruptEntrySavesPcAndStatus : Prop :=
  ∀ s : State, s.bus.wf = true →
    let bus := ((s.bus.write (inStackPage s.cpu.sp) (hi s.cpu.pc)).write (inStackPage (s.cpu.sp - 1)) (lo s.cpu.pc)).write
      (inStackPage (s.cpu.sp - 2)) (packP false s.cpu.p)
    let cpu := { s.cpu with sp := s.cpu.sp - 3, p := { s.cpu.p with i := true } }
    nmiEntry s = goTo s cpu bus (word (s.read 0xFFFB) (s.read 0xFFFA)) 7 ∧
    irqEntry s = goTo s cpu bus (word (s.read 0xFFFF) (s.read 0xFFFE)) 7

/-- O37. RTI undoes an entry: from every state with the SP and the three stack bytes that an NMI or IRQ entry left, whatever else a
handler has changed, RTI restores pc, P and SP to what they were (60_exceptions.md R333). -/
def Obligations.RtiUndoesInterruptEntry : Prop :=
  ∀ s t : State, s.bus.wf = true →
    (∃ entered ∈ [nmiEntry s, irqEntry s], t.cpu.sp = entered.cpu.sp ∧
      ∀ k ∈ [(0 : Byte), 1, 2], t.read (inStackPage (s.cpu.sp - k)) = entered.read (inStackPage (s.cpu.sp - k))) →
    Runs 0x40 .rti t (goTo t { t.cpu with sp := s.cpu.sp, p := s.cpu.p } t.bus s.cpu.pc 6)

/-! ## What no instruction does -/

/-- O38. No instruction touches the video unit, the audio unit, the ring, the NMI request, the scheduler's counters, the launch
parameters, or the model's own `callback` and `agenda` (60_exceptions.md R322, 10_state.md R34 to R37; notes/assumptions/6.md, 7.md). -/
def Obligations.NoInstructionTouchesTheUnits : Prop :=
  ∀ (i : Instr) (s t : State), exec i s = .next t →
    t.video = s.video ∧ t.audio = s.audio ∧ t.ring = s.ring ∧ t.nmiRequest = s.nmiRequest ∧ t.sched = s.sched ∧
    t.config = s.config ∧ t.callback = s.callback ∧ t.agenda = s.agenda

/-- O39. A register changes only by the instructions 10_state.md R21 lists for it, A by a shift or rotate only in its accumulator form. -/
def Obligations.RegistersChangeOnlyByTheirWriters : Prop :=
  ∀ (i : Instr) (s t : State) (r : Reg), exec i s = .next t → t.reg r ≠ s.reg r →
    i.row.mnemonic ∈ registerWriters r ∧
    (i.row.mnemonic ∈ [Mnemonic.ASL, .LSR, .ROL, .ROR] → i.row.mode = .accumulator)

/-- O40. A flag changes only by the instructions 10_state.md R28 lists for it. -/
def Obligations.FlagsChangeOnlyByTheirWriters : Prop :=
  ∀ (i : Instr) (s t : State), exec i s = .next t →
    (t.cpu.p.c ≠ s.cpu.p.c → i.row.mnemonic ∈ cWriters) ∧ (t.cpu.p.z ≠ s.cpu.p.z → i.row.mnemonic ∈ nzWriters) ∧
    (t.cpu.p.n ≠ s.cpu.p.n → i.row.mnemonic ∈ nzWriters) ∧ (t.cpu.p.v ≠ s.cpu.p.v → i.row.mnemonic ∈ vWriters) ∧
    (t.cpu.p.i ≠ s.cpu.p.i → i.row.mnemonic ∈ iWriters) ∧ (t.cpu.p.d ≠ s.cpu.p.d → i.row.mnemonic ∈ dWriters)

/-- O41. Every form that stores nothing leaves every byte of the bus as it was. -/
def Obligations.FormsThatStoreNothingKeepEveryByte : Prop :=
  ∀ (i : Instr) (s t : State), exec i s = .next t →
    (i.row.mnemonic ∉ storers ∨ i.row.mode = .accumulator) → ∀ c : Word, t.read c = s.read c

/-- O42. A store or a read-modify-write form leaves every byte as it was but the one at its effective address. -/
def Obligations.StoringFormsKeepEveryOtherByte : Prop :=
  ∀ (s t : State) (b : Byte) (w : Word), s.bus.wf = true → ∀ f ∈ storingForms b w, exec f.instr s = .next t →
    ∀ c : Word, c ≠ ea f.operand s → t.read c = s.read c

/-- O43. The pushing instructions leave every byte as it was but the one, two or three they push at `0x0100 + SP` and below. -/
def Obligations.PushingInstructionsKeepEveryOtherByte : Prop :=
  ∀ (s t : State) (w : Word), s.bus.wf = true →
    (∀ i ∈ [Instr.pha, .php], exec i s = .next t → ∀ c : Word, c ≠ inStackPage s.cpu.sp → t.read c = s.read c) ∧
    (exec (.jsr w) s = .next t → ∀ c : Word, c ≠ inStackPage s.cpu.sp → c ≠ inStackPage (s.cpu.sp - 1) →
      t.read c = s.read c) ∧
    (exec .brk s = .next t → ∀ c : Word, c ≠ inStackPage s.cpu.sp → c ≠ inStackPage (s.cpu.sp - 1) →
      c ≠ inStackPage (s.cpu.sp - 2) → t.read c = s.read c)

/-- O44. P.D changes no result: an instruction that neither writes D nor pushes P does the same whatever D holds, D itself apart
(10_state.md R29). -/
def Obligations.DecimalFlagChangesNoResult : Prop :=
  ∀ (i : Instr) (s t : State) (b : Bool),
    i.row.mnemonic ∉ [Mnemonic.PHP, .BRK, .PLP, .RTI, .CLD, .SED] → exec i s = .next t →
    exec i (withD b s) = .next (withD b t)

/-! ## The video timing unit -/

/-- O45. What one PPU step does at each edge of the frame, and that it does nothing else to the bus and the request (60_exceptions.md R362
to R366): VBlank starts as `ppuCycle` reaches 82,181, ends at 89,001, and the frame wraps at 89,342. -/
def Obligations.PpuStepActsAtTheEdgesOfVBlank : Prop :=
  ∀ s : State, VideoAgrees s →
    let t := ppuStep s
    if s.video.ppuCycle = 82180 then
      t.video = { ppuCycle := 82181, scanline := 241, vstate := .vblankActive, vblankActive := true } ∧
      t.nmiRequest = true ∧ t.bus = s.bus.write 0x2002 (s.read 0x2002 ||| 0x80)
    else if s.video.ppuCycle = 89000 then
      t.video = { ppuCycle := 89001, scanline := 261, vstate := .vblankDone, vblankActive := false } ∧
      t.nmiRequest = s.nmiRequest ∧ t.bus = s.bus.write 0x2002 (s.read 0x2002 &&& 0x7F)
    else if s.video.ppuCycle = 89341 then
      t.video = { ppuCycle := 0, scanline := 0, vstate := .visible, vblankActive := s.video.vblankActive } ∧
      t.nmiRequest = s.nmiRequest ∧ t.bus = s.bus
    else
      t.video.ppuCycle = s.video.ppuCycle + 1 ∧ t.video.vstate = s.video.vstate ∧
      t.video.vblankActive = s.video.vblankActive ∧ t.nmiRequest = s.nmiRequest ∧ t.bus = s.bus

/-- O46. Advancing the video unit changes, of the bus, bit 7 of 0x2002 alone, and no part of the state but the video unit, the request
and that bit (60_exceptions.md R360). -/
def Obligations.VideoUnitTouchesOnlyTheStatusBit : Prop :=
  ∀ (c : Nat) (s : State), s.bus.wf = true →
    let t := videoAdvance c s
    (∀ a : Word, a ≠ 0x2002 → t.read a = s.read a) ∧ t.read 0x2002 &&& 0x7F = s.read 0x2002 &&& 0x7F ∧
    t = { s with video := t.video, nmiRequest := t.nmiRequest, bus := t.bus }

/-- O47. For a feed of fewer than 341 PPU cycles, stepping one PPU cycle at a time is the bulk form (60_exceptions.md R368). -/
def Obligations.VideoAdvanceIsTheBulkForm : Prop :=
  ∀ (c : Nat) (s : State), 3 * c < 341 → VideoAgrees s → videoAdvance c s = bulkAdvance c s

/-- O48. From launch the first VBlank, with its NMI request and bit 7 of 0x2002, comes with the 27,394th CPU cycle and not before
(60_exceptions.md R367). -/
def Obligations.FirstVBlankAfter27394Cycles : Prop :=
  ∀ (g : Config) (bus : Memory),
    (∀ c ≤ 27393, (videoAdvance c (State.launch g bus)).nmiRequest = false ∧
      (videoAdvance c (State.launch g bus)).bus = bus) ∧
    (videoAdvance 27394 (State.launch g bus)).nmiRequest = true ∧
    (videoAdvance 27394 (State.launch g bus)).bus = bus.write 0x2002 (bus.read 0x2002 ||| 0x80)

/-! ## The audio unit and the ring -/

/-- O49. `AudioAdvance`: every sample that is due is synthesised in order from the bus as it is, and the staged and the new samples leave
staging for the ring in whole batches, in order (60_exceptions.md R378, R383). Nothing else changes but `callback.unseen`, which this
statement leaves open. That the callback agent has a part of its own, of which `pull` and `returned` stay, is the model's choice
(notes/assumptions/7.md, 8.md). -/
def Obligations.AudioAdvanceMakesTheDueSamples : Prop :=
  ∀ (c : Nat) (s : State), s.config.wf = true → s.audio.staging.length < s.config.batchSize →
    let k := (s.audio.apuCycles + c) * s.config.sampleRateHz / s.config.cpuClockHz - s.audio.samplesMade
    let all := s.audio.staging ++ (List.range k).map fun j => synth s (s.audio.samplesMade + j)
    let whole := s.config.batchSize * (all.length / s.config.batchSize)
    let t := produceAll (all.take whole) s
    audioAdvance c s = { t with
      audio := {
        apuCycles := s.audio.apuCycles + c
        samplesMade := s.audio.samplesMade + k
        staging := all.drop whole }
      callback := (audioAdvance c s).callback } ∧
    (audioAdvance c s).callback.pull = s.callback.pull ∧
    (audioAdvance c s).callback.returned = s.callback.returned

/-- O50. A flush of no more samples than the ring has slots: sample `j` is at slot `(wcur + j) mod RING_CAPACITY`, every other slot is as
it was, the write cursor moves by their number, the read cursor stays, staging is empty (60_exceptions.md R383). -/
def Obligations.FlushMovesStagedSamplesInOrder : Prop :=
  ∀ s : State, 0 < s.config.ringCapacity → s.audio.staging.length ≤ s.config.ringCapacity →
    Store.wf (0 : Sample) s.config.ringCapacity s.ring.slots = true →
    let t := flush s
    (∀ (j : Nat) (h : j < s.audio.staging.length),
      t.ring.slot ((s.ring.wcur + j) % s.config.ringCapacity) = s.audio.staging[j]) ∧
    (∀ k : Nat, (∀ j < s.audio.staging.length, k ≠ (s.ring.wcur + j) % s.config.ringCapacity) →
      t.ring.slot k = s.ring.slot k) ∧
    t.ring.wcur = s.ring.wcur + s.audio.staging.length ∧ t.ring.rcur = s.ring.rcur ∧ t.audio.staging = []

/-- O51. What the channels yield, in numbers, and what a sample is. A period is 11 bits of two bytes and a duty bits 7:6 of one
(60_exceptions.md R376). The phase step is that of R379 and R381, within its table before the clamp. A pulse is 1 at the steps R380
lists, the triangle has R381's levels, and a period of 0 yields 0. The sample of a state is the gains' sum of what its three
channels yield, saturated, as a signed 16-bit number (R382). -/
def Obligations.PhaseStaysInTableAndSampleSaturates : Prop :=
  (∀ (s : State) (a c : Word),
    channelPeriod s a c = periodNat s a c ∧ channelPeriod s a c < 2048 ∧ channelDuty s a = dutyNat s a) ∧
  (∀ (g : Config) (n p : Nat),
    phaseStep g 8 16 n p = stepNat g 8 16 n p ∧ phaseStep g 8 16 n p < 8 ∧
    phaseStep g 32 32 n p = stepNat g 32 32 n p ∧ phaseStep g 32 32 n p < 32 ∧
    (∀ d < 4, pulseValue g n p d = pulseNat g n p d) ∧ triangleValue g n p = triangleNat g n p) ∧
  ∀ (s : State) (n : Nat),
    let v1 := pulseNat s.config n (periodNat s 0x4002 0x4003) (dutyNat s 0x4000)
    let v2 := pulseNat s.config n (periodNat s 0x4006 0x4007) (dutyNat s 0x4004)
    let vt := triangleNat s.config n (periodNat s 0x400A 0x400B)
    (synth s n).toInt =
      max (-32768) (min 32767 (s.config.gainPulse * ((v1 : Int) + v2) + s.config.gainTriangle * vt))

/-- O52. A sample depends on the launch parameters and on the bytes of 60_exceptions.md R376 alone, and with the three periods 0 it is 0
(R377, R379, R382). -/
def Obligations.SampleReadsOnlyTheChannelRegisters : Prop :=
  (∀ (s t : State) (n : Nat), s.config = t.config → (∀ a ∈ audioRegisters, s.read a = t.read a) → synth s n = synth t n) ∧
  ∀ (s : State) (n : Nat), channelPeriod s 0x4002 0x4003 = 0 → channelPeriod s 0x4006 0x4007 = 0 →
    channelPeriod s 0x400A 0x400B = 0 → synth s n = 0

/-- O53. A Pull that no tick interrupts is `Pull(K)` of 60_exceptions.md R384: the overrun correction, the copy, the silence for the
shortfall, the new read cursor, and exactly K bytes. That a Pull is a call and turns that go on is the model's choice
(notes/assumptions/7.md). -/
def Obligations.UninterruptedPullReturnsExactlyTheBytes : Prop :=
  ∀ (s : State) (k : Nat) (more : List Turn), s.callback.pull = none →
    let w := s.ring.wcur
    let cap := s.config.ringCapacity
    let r := if w - s.ring.rcur > cap then w - cap else s.ring.rcur
    let n := min (k / 2) (w - r)
    let out := (List.range n).map (fun j => s.ring.slot ((r + j) % cap)) ++ List.replicate (k / 2 - n) 0
    let bytes := out.flatMap (fun v => [lo v, hi v]) ++ (if k % 2 = 1 then [0] else [])
    bytes.length = k ∧
    Host.Core.run Sys2Proof.core (n + 2)
      { s with agenda := .call k 0 :: (List.replicate (n + 1) (.advance 0) ++ more) } =
      .next { s with
        ring := { s.ring with rcur := r + n }
        callback := { pull := none, returned := bytes, unseen := [] }
        agenda := more }

/-- O54. A slot read that races with a flush returns the sample the slot held before or the one the flush wrote, each of the two where the
read falls before or after the write, and no third (60_exceptions.md R385); a Pull that begins inside the flush loads the
write cursor from before it (R383). That a turn names its place among the writes is the model's choice (notes/assumptions/8.md). -/
def Obligations.RacingReadReturnsOldOrNewSample : Prop :=
  ∀ s : State, s.callback.unseen = [] → 0 < s.config.ringCapacity →
    s.audio.staging.length ≤ s.config.ringCapacity →
    Store.wf (0 : Sample) s.config.ringCapacity s.ring.slots = true →
    (∀ p, s.callback.pull = some p → p.got.length < p.count →
      let k := (s.ring.rcur + p.got.length) % s.config.ringCapacity
      let got (lag : Nat) := (pullAdvance (lookBack lag (flush s))).callback.pull.map fun q => q.got
      (∀ lag, got lag = some (p.got ++ [s.ring.slot k]) ∨ got lag = some (p.got ++ [(flush s).ring.slot k])) ∧
      got 0 = some (p.got ++ [(flush s).ring.slot k]) ∧
      ∀ lag > s.audio.staging.length, got lag = some (p.got ++ [s.ring.slot k])) ∧
    seenWcur (lookBack 0 (flush s)) = s.ring.wcur + s.audio.staging.length ∧
    ∀ lag > 0, seenWcur (lookBack lag (flush s)) = s.ring.wcur

/-- O55. A turn of the callback agent writes `rcur` alone (60_exceptions.md R387), but for its own part and the agenda, which are the model's
choice (notes/assumptions/6.md, 7.md). -/
def Obligations.CallbackTurnsWriteOnlyTheReadCursor : Prop :=
  ∀ (s t : State) (k lag : Nat) (more : List Turn), (s.agenda = .call k lag :: more ∨ s.agenda = .advance lag :: more) →
    step s = .next t →
    t = { s with ring := { s.ring with rcur := t.ring.rcur }, callback := t.callback, agenda := more }

/-! ## Headlines -/

/-- O56. The emulation agent's state after a tick is a function of its state before it: nothing the callback agent did, and no read
cursor, changes what a tick computes (70_reset_and_hazards.md R448). -/
def Obligations.TicksDoNotDependOnTheConsumer : Prop :=
  ∀ s s' t t' : State, s.emulationView = s'.emulationView → tick s = .next t → tick s' = .next t' →
    t.emulationView = t'.emulationView

/-- O57. Every step keeps the invariant of the machine (Safety.lean), whoever's turn it is. -/
def Obligations.EveryStepKeepsTheInvariant : Prop := ∀ s t : State, MachineInv s → step s = .next t → MachineInv t

/-- O58. After reset, and after every launch with legal parameters on a bus in canonical form, the invariant holds. State.reset takes the
executable defaults of 00_scope.md R8, the model's choice (notes/assumptions/1.md to 3.md). -/
def Obligations.LaunchMeetsTheInvariant : Prop :=
  MachineInv State.reset ∧ ∀ (g : Config) (bus : Memory), g.wf = true → bus.wf = true → MachineInv (State.launch g bus)

/-- O59. Every piece of state at launch (10_state.md R39), for every value of the open parameters. -/
def Obligations.LaunchStateIsTheResetTable : Prop :=
  ∀ (g : Config) (bus : Memory),
    let s := State.launch g bus
    s.cpu.a = g.resetA ∧ s.cpu.x = g.resetX ∧ s.cpu.y = g.resetY ∧ s.cpu.sp = 0xFD ∧
    s.cpu.pc = word (bus.read 0xFFFD) (bus.read 0xFFFC) ∧
    s.cpu.p.c = g.resetC ∧ s.cpu.p.z = g.resetZ ∧ s.cpu.p.v = g.resetV ∧ s.cpu.p.n = g.resetN ∧
    s.cpu.p.d = g.resetD ∧ s.cpu.p.i = true ∧
    s.bus = bus ∧ s.nmiRequest = false ∧
    s.video.ppuCycle = 0 ∧ s.video.scanline = 0 ∧ s.video.vstate = .visible ∧ s.video.vblankActive = false ∧
    s.audio.apuCycles = 0 ∧ s.audio.samplesMade = 0 ∧ s.audio.staging = [] ∧
    (∀ k : Nat, s.ring.slot k = 0) ∧ s.ring.wcur = 0 ∧ s.ring.rcur = 0 ∧
    s.sched.totalCycles = 0 ∧ s.sched.tickCount = 0

/-- O60. The loader fails exactly on a short file, a wrong signature, missing data or a bank count of 0; else one bank fills both
program windows, or the first two fill the 32 KiB from 0x8000, and every other byte is as it was (70_reset_and_hazards.md R430 to
R434). That the loader is a function from a file and a bus is the model's choice (notes/assumptions/16.md). -/
def Obligations.LoaderFillsTheProgramWindows : Prop :=
  ∀ (file : List Byte) (bus : Memory), bus.wf = true →
    let prg := (file.getD 4 0).toNat
    let chr := (file.getD 5 0).toNat
    (loadImage file bus = none ↔ file.length < 16 ∨ file.take 3 ≠ [0x4E, 0x45, 0x53] ∨
      file.length < 16 + prg * 16384 + chr * 8192 ∨ prg = 0) ∧
    ∀ m : Memory, loadImage file bus = some m → ∀ a : Word,
      m.read a =
        if a.toNat < 0x8000 then bus.read a
        else if prg = 1 then file.getD (16 + (a.toNat - 0x8000) % 16384) 0
        else file.getD (16 + (a.toNat - 0x8000)) 0
end

