-- ==== Sys2Proof/Laws/Decode.lean ====
section
/-! SUPPORT. The bytes of a word, and what the decoder reads from an opcode byte and two operand bytes. -/

namespace Sys2Proof

theorem lo_toNat (w : Word) : (lo w).toNat = w.toNat % 256 := by simp [lo]

theorem hi_toNat (w : Word) : (hi w).toNat = w.toNat / 256 := by
  have := w.isLt
  simp only [hi, BitVec.toNat_setWidth, BitVec.toNat_ushiftRight, Nat.shiftRight_eq_div_pow]
  omega

theorem word_toNat (h l : Byte) : (word h l).toNat = h.toNat * 256 + l.toNat := by
  have := h.isLt
  have hl := l.isLt
  have := Nat.shiftLeft_add_eq_or_of_lt hl h.toNat
  simp only [word, BitVec.toNat_or, BitVec.toNat_shiftLeft, BitVec.toNat_setWidth]
  rw [Nat.mod_eq_of_lt (show l.toNat < 2 ^ 16 by omega), Nat.mod_eq_of_lt (show h.toNat < 2 ^ 16 by omega),
    Nat.mod_eq_of_lt (by rw [Nat.shiftLeft_eq]; omega), ← this, Nat.shiftLeft_eq]

@[simp] theorem lo_word (h l : Byte) : lo (word h l) = l := by
  have := l.isLt
  exact BitVec.eq_of_toNat_eq (by rw [lo_toNat, word_toNat]; omega)

@[simp] theorem hi_word (h l : Byte) : hi (word h l) = h := by
  have := l.isLt
  exact BitVec.eq_of_toNat_eq (by rw [hi_toNat, word_toNat]; omega)

@[simp] theorem word_hi_lo (w : Word) : word (hi w) (lo w) = w :=
  BitVec.eq_of_toNat_eq (by rw [word_toNat, hi_toNat, lo_toNat]; omega)

/-- A byte is the literal its value says. -/
theorem byte_eq_of_toNat {op : Byte} {n : Nat} (h : op.toNat = n) : op = BitVec.ofNat 8 n := by
  subst h; simp

/-- The opcode of the instruction read is the byte read. -/
theorem decodeBytes_opcode (op b1 b2 : Byte) : (decodeBytes op b1 b2).row.opcode = op := by
  unfold decodeBytes
  split <;> first | exact (byte_eq_of_toNat ‹_›).symm | rfl

/-- The operand bytes of the instruction read are the first of those given, as many as its mode has. -/
theorem decodeBytes_operandBytes (op b1 b2 : Byte) :
    (decodeBytes op b1 b2).operandBytes = [b1, b2].take (decodeBytes op b1 b2).row.mode.operandLength := by
  unfold decodeBytes
  split <;> simp [Instr.operandBytes, Instr.row, Mode.operandLength]

/-- The row of the instruction read depends on the opcode byte alone. -/
theorem decodeBytes_row (op b1 b2 : Byte) : (decodeBytes op b1 b2).row = (decodeBytes op 0 0).row := by
  rw [decodeBytes, decodeBytes]
  split <;> rfl

/-- A byte that no known form has is read as itself. -/
theorem decodeBytes_known_or_unknown (op b1 b2 : Byte) :
    (decodeBytes op b1 b2).row.mnemonic ≠ .UNKNOWN ∨ decodeBytes op b1 b2 = .unknown op := by
  rw [decodeBytes]
  split <;> first | exact .inr rfl | exact .inl (by simp [Instr.row])

/-- Decoding an instruction of one byte. -/
theorem decode_none {op : Byte} {i : Instr} (rest : List Byte) (hl : operandLengthOf op = 0) (hi : decodeBytes op 0 0 = i) :
    decode (op :: rest) = .ok (i, rest) := by
  subst hi; simp only [decode]; rw [hl]; cases rest <;> rfl

/-- Decoding an instruction with one operand byte. -/
theorem decode_one {op b1 : Byte} {i : Instr} (rest : List Byte) (hl : operandLengthOf op = 1)
    (hi : decodeBytes op b1 0 = i) : decode (op :: b1 :: rest) = .ok (i, rest) := by
  subst hi; simp only [decode]; rw [hl]; rfl

/-- Decoding an instruction with two operand bytes. -/
theorem decode_two {op b1 b2 : Byte} {i : Instr} (rest : List Byte) (hl : operandLengthOf op = 2)
    (hi : decodeBytes op b1 b2 = i) : decode (op :: b1 :: b2 :: rest) = .ok (i, rest) := by
  subst hi; simp only [decode]; rw [hl]; rfl

end Sys2Proof
end

