-- ==== Sys2Proof/Laws/PerInstr.lean ====
section
/-! SUPPORT. One statement about every instruction as syntax: its opcode byte, followed by its operand bytes, is read as it. -/

namespace Sys2Proof.Laws.DecodesAsItself

/-- When `i` is well-formed, its opcode byte and two bytes that begin with its operand bytes are decoded as `i`. -/
def Statement (i : Instr) : Prop :=
  i.wf = true → ∀ b1 b2 : Byte, [b1, b2].take i.row.mode.operandLength = i.operandBytes → decodeBytes i.row.opcode b1 b2 = i

theorem ldaIndX (z : Byte) : Statement (.ldaIndX z) := by rintro _ _ _ ⟨⟩; rfl
theorem ldaZp (z : Byte) : Statement (.ldaZp z) := by rintro _ _ _ ⟨⟩; rfl
theorem ldaImm (i : Byte) : Statement (.ldaImm i) := by rintro _ _ _ ⟨⟩; rfl
theorem ldaAbs (w : Word) : Statement (.ldaAbs w) := by rintro _ _ _ ⟨⟩; exact congrArg _ (word_hi_lo w)
theorem ldaIndY (z : Byte) : Statement (.ldaIndY z) := by rintro _ _ _ ⟨⟩; rfl
theorem ldaZpX (z : Byte) : Statement (.ldaZpX z) := by rintro _ _ _ ⟨⟩; rfl
theorem ldaAbsY (w : Word) : Statement (.ldaAbsY w) := by rintro _ _ _ ⟨⟩; exact congrArg _ (word_hi_lo w)
theorem ldaAbsX (w : Word) : Statement (.ldaAbsX w) := by rintro _ _ _ ⟨⟩; exact congrArg _ (word_hi_lo w)
theorem ldxImm (i : Byte) : Statement (.ldxImm i) := by rintro _ _ _ ⟨⟩; rfl
theorem ldxZp (z : Byte) : Statement (.ldxZp z) := by rintro _ _ _ ⟨⟩; rfl
theorem ldxAbs (w : Word) : Statement (.ldxAbs w) := by rintro _ _ _ ⟨⟩; exact congrArg _ (word_hi_lo w)
theorem ldxZpY (z : Byte) : Statement (.ldxZpY z) := by rintro _ _ _ ⟨⟩; rfl
theorem ldxAbsY (w : Word) : Statement (.ldxAbsY w) := by rintro _ _ _ ⟨⟩; exact congrArg _ (word_hi_lo w)
theorem ldyImm (i : Byte) : Statement (.ldyImm i) := by rintro _ _ _ ⟨⟩; rfl
theorem ldyZp (z : Byte) : Statement (.ldyZp z) := by rintro _ _ _ ⟨⟩; rfl
theorem ldyAbs (w : Word) : Statement (.ldyAbs w) := by rintro _ _ _ ⟨⟩; exact congrArg _ (word_hi_lo w)
theorem ldyZpX (z : Byte) : Statement (.ldyZpX z) := by rintro _ _ _ ⟨⟩; rfl
theorem ldyAbsX (w : Word) : Statement (.ldyAbsX w) := by rintro _ _ _ ⟨⟩; exact congrArg _ (word_hi_lo w)
theorem staIndX (z : Byte) : Statement (.staIndX z) := by rintro _ _ _ ⟨⟩; rfl
theorem staZp (z : Byte) : Statement (.staZp z) := by rintro _ _ _ ⟨⟩; rfl
theorem staAbs (w : Word) : Statement (.staAbs w) := by rintro _ _ _ ⟨⟩; exact congrArg _ (word_hi_lo w)
theorem staIndY (z : Byte) : Statement (.staIndY z) := by rintro _ _ _ ⟨⟩; rfl
theorem staZpX (z : Byte) : Statement (.staZpX z) := by rintro _ _ _ ⟨⟩; rfl
theorem staAbsY (w : Word) : Statement (.staAbsY w) := by rintro _ _ _ ⟨⟩; exact congrArg _ (word_hi_lo w)
theorem staAbsX (w : Word) : Statement (.staAbsX w) := by rintro _ _ _ ⟨⟩; exact congrArg _ (word_hi_lo w)
theorem stxZp (z : Byte) : Statement (.stxZp z) := by rintro _ _ _ ⟨⟩; rfl
theorem stxAbs (w : Word) : Statement (.stxAbs w) := by rintro _ _ _ ⟨⟩; exact congrArg _ (word_hi_lo w)
theorem stxZpY (z : Byte) : Statement (.stxZpY z) := by rintro _ _ _ ⟨⟩; rfl
theorem styZp (z : Byte) : Statement (.styZp z) := by rintro _ _ _ ⟨⟩; rfl
theorem styAbs (w : Word) : Statement (.styAbs w) := by rintro _ _ _ ⟨⟩; exact congrArg _ (word_hi_lo w)
theorem styZpX (z : Byte) : Statement (.styZpX z) := by rintro _ _ _ ⟨⟩; rfl
theorem tax : Statement .tax := fun _ _ _ _ => rfl
theorem tay : Statement .tay := fun _ _ _ _ => rfl
theorem txa : Statement .txa := fun _ _ _ _ => rfl
theorem tya : Statement .tya := fun _ _ _ _ => rfl
theorem tsx : Statement .tsx := fun _ _ _ _ => rfl
theorem txs : Statement .txs := fun _ _ _ _ => rfl
theorem adcIndX (z : Byte) : Statement (.adcIndX z) := by rintro _ _ _ ⟨⟩; rfl
theorem adcZp (z : Byte) : Statement (.adcZp z) := by rintro _ _ _ ⟨⟩; rfl
theorem adcImm (i : Byte) : Statement (.adcImm i) := by rintro _ _ _ ⟨⟩; rfl
theorem adcAbs (w : Word) : Statement (.adcAbs w) := by rintro _ _ _ ⟨⟩; exact congrArg _ (word_hi_lo w)
theorem adcIndY (z : Byte) : Statement (.adcIndY z) := by rintro _ _ _ ⟨⟩; rfl
theorem adcZpX (z : Byte) : Statement (.adcZpX z) := by rintro _ _ _ ⟨⟩; rfl
theorem adcAbsY (w : Word) : Statement (.adcAbsY w) := by rintro _ _ _ ⟨⟩; exact congrArg _ (word_hi_lo w)
theorem adcAbsX (w : Word) : Statement (.adcAbsX w) := by rintro _ _ _ ⟨⟩; exact congrArg _ (word_hi_lo w)
theorem sbcIndX (z : Byte) : Statement (.sbcIndX z) := by rintro _ _ _ ⟨⟩; rfl
theorem sbcZp (z : Byte) : Statement (.sbcZp z) := by rintro _ _ _ ⟨⟩; rfl
theorem sbcImm (i : Byte) : Statement (.sbcImm i) := by rintro _ _ _ ⟨⟩; rfl
theorem sbcAbs (w : Word) : Statement (.sbcAbs w) := by rintro _ _ _ ⟨⟩; exact congrArg _ (word_hi_lo w)
theorem sbcIndY (z : Byte) : Statement (.sbcIndY z) := by rintro _ _ _ ⟨⟩; rfl
theorem sbcZpX (z : Byte) : Statement (.sbcZpX z) := by rintro _ _ _ ⟨⟩; rfl
theorem sbcAbsY (w : Word) : Statement (.sbcAbsY w) := by rintro _ _ _ ⟨⟩; exact congrArg _ (word_hi_lo w)
theorem sbcAbsX (w : Word) : Statement (.sbcAbsX w) := by rintro _ _ _ ⟨⟩; exact congrArg _ (word_hi_lo w)
theorem andIndX (z : Byte) : Statement (.andIndX z) := by rintro _ _ _ ⟨⟩; rfl
theorem andZp (z : Byte) : Statement (.andZp z) := by rintro _ _ _ ⟨⟩; rfl
theorem andImm (i : Byte) : Statement (.andImm i) := by rintro _ _ _ ⟨⟩; rfl
theorem andAbs (w : Word) : Statement (.andAbs w) := by rintro _ _ _ ⟨⟩; exact congrArg _ (word_hi_lo w)
theorem andIndY (z : Byte) : Statement (.andIndY z) := by rintro _ _ _ ⟨⟩; rfl
theorem andZpX (z : Byte) : Statement (.andZpX z) := by rintro _ _ _ ⟨⟩; rfl
theorem andAbsY (w : Word) : Statement (.andAbsY w) := by rintro _ _ _ ⟨⟩; exact congrArg _ (word_hi_lo w)
theorem andAbsX (w : Word) : Statement (.andAbsX w) := by rintro _ _ _ ⟨⟩; exact congrArg _ (word_hi_lo w)
theorem oraIndX (z : Byte) : Statement (.oraIndX z) := by rintro _ _ _ ⟨⟩; rfl
theorem oraZp (z : Byte) : Statement (.oraZp z) := by rintro _ _ _ ⟨⟩; rfl
theorem oraImm (i : Byte) : Statement (.oraImm i) := by rintro _ _ _ ⟨⟩; rfl
theorem oraAbs (w : Word) : Statement (.oraAbs w) := by rintro _ _ _ ⟨⟩; exact congrArg _ (word_hi_lo w)
theorem oraIndY (z : Byte) : Statement (.oraIndY z) := by rintro _ _ _ ⟨⟩; rfl
theorem oraZpX (z : Byte) : Statement (.oraZpX z) := by rintro _ _ _ ⟨⟩; rfl
theorem oraAbsY (w : Word) : Statement (.oraAbsY w) := by rintro _ _ _ ⟨⟩; exact congrArg _ (word_hi_lo w)
theorem oraAbsX (w : Word) : Statement (.oraAbsX w) := by rintro _ _ _ ⟨⟩; exact congrArg _ (word_hi_lo w)
theorem eorIndX (z : Byte) : Statement (.eorIndX z) := by rintro _ _ _ ⟨⟩; rfl
theorem eorZp (z : Byte) : Statement (.eorZp z) := by rintro _ _ _ ⟨⟩; rfl
theorem eorImm (i : Byte) : Statement (.eorImm i) := by rintro _ _ _ ⟨⟩; rfl
theorem eorAbs (w : Word) : Statement (.eorAbs w) := by rintro _ _ _ ⟨⟩; exact congrArg _ (word_hi_lo w)
theorem eorIndY (z : Byte) : Statement (.eorIndY z) := by rintro _ _ _ ⟨⟩; rfl
theorem eorZpX (z : Byte) : Statement (.eorZpX z) := by rintro _ _ _ ⟨⟩; rfl
theorem eorAbsY (w : Word) : Statement (.eorAbsY w) := by rintro _ _ _ ⟨⟩; exact congrArg _ (word_hi_lo w)
theorem eorAbsX (w : Word) : Statement (.eorAbsX w) := by rintro _ _ _ ⟨⟩; exact congrArg _ (word_hi_lo w)
theorem cmpIndX (z : Byte) : Statement (.cmpIndX z) := by rintro _ _ _ ⟨⟩; rfl
theorem cmpZp (z : Byte) : Statement (.cmpZp z) := by rintro _ _ _ ⟨⟩; rfl
theorem cmpImm (i : Byte) : Statement (.cmpImm i) := by rintro _ _ _ ⟨⟩; rfl
theorem cmpAbs (w : Word) : Statement (.cmpAbs w) := by rintro _ _ _ ⟨⟩; exact congrArg _ (word_hi_lo w)
theorem cmpIndY (z : Byte) : Statement (.cmpIndY z) := by rintro _ _ _ ⟨⟩; rfl
theorem cmpZpX (z : Byte) : Statement (.cmpZpX z) := by rintro _ _ _ ⟨⟩; rfl
theorem cmpAbsY (w : Word) : Statement (.cmpAbsY w) := by rintro _ _ _ ⟨⟩; exact congrArg _ (word_hi_lo w)
theorem cmpAbsX (w : Word) : Statement (.cmpAbsX w) := by rintro _ _ _ ⟨⟩; exact congrArg _ (word_hi_lo w)
theorem cpxImm (i : Byte) : Statement (.cpxImm i) := by rintro _ _ _ ⟨⟩; rfl
theorem cpxZp (z : Byte) : Statement (.cpxZp z) := by rintro _ _ _ ⟨⟩; rfl
theorem cpxAbs (w : Word) : Statement (.cpxAbs w) := by rintro _ _ _ ⟨⟩; exact congrArg _ (word_hi_lo w)
theorem cpyImm (i : Byte) : Statement (.cpyImm i) := by rintro _ _ _ ⟨⟩; rfl
theorem cpyZp (z : Byte) : Statement (.cpyZp z) := by rintro _ _ _ ⟨⟩; rfl
theorem cpyAbs (w : Word) : Statement (.cpyAbs w) := by rintro _ _ _ ⟨⟩; exact congrArg _ (word_hi_lo w)
theorem bitZp (z : Byte) : Statement (.bitZp z) := by rintro _ _ _ ⟨⟩; rfl
theorem bitAbs (w : Word) : Statement (.bitAbs w) := by rintro _ _ _ ⟨⟩; exact congrArg _ (word_hi_lo w)
theorem aslZp (z : Byte) : Statement (.aslZp z) := by rintro _ _ _ ⟨⟩; rfl
theorem aslAcc : Statement .aslAcc := fun _ _ _ _ => rfl
theorem aslAbs (w : Word) : Statement (.aslAbs w) := by rintro _ _ _ ⟨⟩; exact congrArg _ (word_hi_lo w)
theorem aslZpX (z : Byte) : Statement (.aslZpX z) := by rintro _ _ _ ⟨⟩; rfl
theorem aslAbsX (w : Word) : Statement (.aslAbsX w) := by rintro _ _ _ ⟨⟩; exact congrArg _ (word_hi_lo w)
theorem lsrZp (z : Byte) : Statement (.lsrZp z) := by rintro _ _ _ ⟨⟩; rfl
theorem lsrAcc : Statement .lsrAcc := fun _ _ _ _ => rfl
theorem lsrAbs (w : Word) : Statement (.lsrAbs w) := by rintro _ _ _ ⟨⟩; exact congrArg _ (word_hi_lo w)
theorem lsrZpX (z : Byte) : Statement (.lsrZpX z) := by rintro _ _ _ ⟨⟩; rfl
theorem lsrAbsX (w : Word) : Statement (.lsrAbsX w) := by rintro _ _ _ ⟨⟩; exact congrArg _ (word_hi_lo w)
theorem rolZp (z : Byte) : Statement (.rolZp z) := by rintro _ _ _ ⟨⟩; rfl
theorem rolAcc : Statement .rolAcc := fun _ _ _ _ => rfl
theorem rolAbs (w : Word) : Statement (.rolAbs w) := by rintro _ _ _ ⟨⟩; exact congrArg _ (word_hi_lo w)
theorem rolZpX (z : Byte) : Statement (.rolZpX z) := by rintro _ _ _ ⟨⟩; rfl
theorem rolAbsX (w : Word) : Statement (.rolAbsX w) := by rintro _ _ _ ⟨⟩; exact congrArg _ (word_hi_lo w)
theorem rorZp (z : Byte) : Statement (.rorZp z) := by rintro _ _ _ ⟨⟩; rfl
theorem rorAcc : Statement .rorAcc := fun _ _ _ _ => rfl
theorem rorAbs (w : Word) : Statement (.rorAbs w) := by rintro _ _ _ ⟨⟩; exact congrArg _ (word_hi_lo w)
theorem rorZpX (z : Byte) : Statement (.rorZpX z) := by rintro _ _ _ ⟨⟩; rfl
theorem rorAbsX (w : Word) : Statement (.rorAbsX w) := by rintro _ _ _ ⟨⟩; exact congrArg _ (word_hi_lo w)
theorem incZp (z : Byte) : Statement (.incZp z) := by rintro _ _ _ ⟨⟩; rfl
theorem incAbs (w : Word) : Statement (.incAbs w) := by rintro _ _ _ ⟨⟩; exact congrArg _ (word_hi_lo w)
theorem incZpX (z : Byte) : Statement (.incZpX z) := by rintro _ _ _ ⟨⟩; rfl
theorem incAbsX (w : Word) : Statement (.incAbsX w) := by rintro _ _ _ ⟨⟩; exact congrArg _ (word_hi_lo w)
theorem decZp (z : Byte) : Statement (.decZp z) := by rintro _ _ _ ⟨⟩; rfl
theorem decAbs (w : Word) : Statement (.decAbs w) := by rintro _ _ _ ⟨⟩; exact congrArg _ (word_hi_lo w)
theorem decZpX (z : Byte) : Statement (.decZpX z) := by rintro _ _ _ ⟨⟩; rfl
theorem decAbsX (w : Word) : Statement (.decAbsX w) := by rintro _ _ _ ⟨⟩; exact congrArg _ (word_hi_lo w)
theorem inx : Statement .inx := fun _ _ _ _ => rfl
theorem iny : Statement .iny := fun _ _ _ _ => rfl
theorem dex : Statement .dex := fun _ _ _ _ => rfl
theorem dey : Statement .dey := fun _ _ _ _ => rfl
theorem jmpAbs (w : Word) : Statement (.jmpAbs w) := by rintro _ _ _ ⟨⟩; exact congrArg _ (word_hi_lo w)
theorem jmpInd (w : Word) : Statement (.jmpInd w) := by rintro _ _ _ ⟨⟩; exact congrArg _ (word_hi_lo w)
theorem jsr (w : Word) : Statement (.jsr w) := by rintro _ _ _ ⟨⟩; exact congrArg _ (word_hi_lo w)
theorem rts : Statement .rts := fun _ _ _ _ => rfl
theorem rti : Statement .rti := fun _ _ _ _ => rfl
theorem brk : Statement .brk := fun _ _ _ _ => rfl
theorem bcc (r : Byte) : Statement (.bcc r) := by rintro _ _ _ ⟨⟩; rfl
theorem bcs (r : Byte) : Statement (.bcs r) := by rintro _ _ _ ⟨⟩; rfl
theorem beq (r : Byte) : Statement (.beq r) := by rintro _ _ _ ⟨⟩; rfl
theorem bne (r : Byte) : Statement (.bne r) := by rintro _ _ _ ⟨⟩; rfl
theorem bmi (r : Byte) : Statement (.bmi r) := by rintro _ _ _ ⟨⟩; rfl
theorem bpl (r : Byte) : Statement (.bpl r) := by rintro _ _ _ ⟨⟩; rfl
theorem bvc (r : Byte) : Statement (.bvc r) := by rintro _ _ _ ⟨⟩; rfl
theorem bvs (r : Byte) : Statement (.bvs r) := by rintro _ _ _ ⟨⟩; rfl
theorem nop : Statement .nop := fun _ _ _ _ => rfl
theorem pha : Statement .pha := fun _ _ _ _ => rfl
theorem php : Statement .php := fun _ _ _ _ => rfl
theorem pla : Statement .pla := fun _ _ _ _ => rfl
theorem plp : Statement .plp := fun _ _ _ _ => rfl
theorem clc : Statement .clc := fun _ _ _ _ => rfl
theorem sec : Statement .sec := fun _ _ _ _ => rfl
theorem cli : Statement .cli := fun _ _ _ _ => rfl
theorem sei : Statement .sei := fun _ _ _ _ => rfl
theorem cld : Statement .cld := fun _ _ _ _ => rfl
theorem sed : Statement .sed := fun _ _ _ _ => rfl
theorem clv : Statement .clv := fun _ _ _ _ => rfl
theorem unknown (op : Byte) : Statement (.unknown op) := by
  have known : ∀ op : Byte, unknownBytes.contains op = true → (decodeBytes op 0 0).row.mnemonic = .UNKNOWN := by
    decide +kernel
  intro hw b1 b2 _
  exact (decodeBytes_known_or_unknown op b1 b2).resolve_left
    fun hk => hk (by rw [decodeBytes_row]; exact known op hw)

end Sys2Proof.Laws.DecodesAsItself
end

