-- ==== Sys2Proof/Laws/Fetch.lean ====
section
/-! SUPPORT. What the decoder reads from the three bytes a fetch takes. -/

namespace Sys2Proof

theorem operandLength_cases (m : Mode) : m.operandLength = 0 ∨ m.operandLength = 1 ∨ m.operandLength = 2 := by
  cases m <;> simp [Mode.operandLength]

theorem wf_of_known {i : Instr} (h : i.row.mnemonic ≠ .UNKNOWN) : i.wf = true := by
  cases i <;> first | rfl | exact absurd rfl h

/-- Every well-formed instruction's opcode byte, followed by its operand bytes, is read as it. -/
theorem decodesAsItself (i : Instr) : Laws.DecodesAsItself.Statement i := by
  cases i
  case ldaIndX x => exact Laws.DecodesAsItself.ldaIndX x
  case ldaZp x => exact Laws.DecodesAsItself.ldaZp x
  case ldaImm x => exact Laws.DecodesAsItself.ldaImm x
  case ldaAbs x => exact Laws.DecodesAsItself.ldaAbs x
  case ldaIndY x => exact Laws.DecodesAsItself.ldaIndY x
  case ldaZpX x => exact Laws.DecodesAsItself.ldaZpX x
  case ldaAbsY x => exact Laws.DecodesAsItself.ldaAbsY x
  case ldaAbsX x => exact Laws.DecodesAsItself.ldaAbsX x
  case ldxImm x => exact Laws.DecodesAsItself.ldxImm x
  case ldxZp x => exact Laws.DecodesAsItself.ldxZp x
  case ldxAbs x => exact Laws.DecodesAsItself.ldxAbs x
  case ldxZpY x => exact Laws.DecodesAsItself.ldxZpY x
  case ldxAbsY x => exact Laws.DecodesAsItself.ldxAbsY x
  case ldyImm x => exact Laws.DecodesAsItself.ldyImm x
  case ldyZp x => exact Laws.DecodesAsItself.ldyZp x
  case ldyAbs x => exact Laws.DecodesAsItself.ldyAbs x
  case ldyZpX x => exact Laws.DecodesAsItself.ldyZpX x
  case ldyAbsX x => exact Laws.DecodesAsItself.ldyAbsX x
  case staIndX x => exact Laws.DecodesAsItself.staIndX x
  case staZp x => exact Laws.DecodesAsItself.staZp x
  case staAbs x => exact Laws.DecodesAsItself.staAbs x
  case staIndY x => exact Laws.DecodesAsItself.staIndY x
  case staZpX x => exact Laws.DecodesAsItself.staZpX x
  case staAbsY x => exact Laws.DecodesAsItself.staAbsY x
  case staAbsX x => exact Laws.DecodesAsItself.staAbsX x
  case stxZp x => exact Laws.DecodesAsItself.stxZp x
  case stxAbs x => exact Laws.DecodesAsItself.stxAbs x
  case stxZpY x => exact Laws.DecodesAsItself.stxZpY x
  case styZp x => exact Laws.DecodesAsItself.styZp x
  case styAbs x => exact Laws.DecodesAsItself.styAbs x
  case styZpX x => exact Laws.DecodesAsItself.styZpX x
  case tax => exact Laws.DecodesAsItself.tax
  case tay => exact Laws.DecodesAsItself.tay
  case txa => exact Laws.DecodesAsItself.txa
  case tya => exact Laws.DecodesAsItself.tya
  case tsx => exact Laws.DecodesAsItself.tsx
  case txs => exact Laws.DecodesAsItself.txs
  case adcIndX x => exact Laws.DecodesAsItself.adcIndX x
  case adcZp x => exact Laws.DecodesAsItself.adcZp x
  case adcImm x => exact Laws.DecodesAsItself.adcImm x
  case adcAbs x => exact Laws.DecodesAsItself.adcAbs x
  case adcIndY x => exact Laws.DecodesAsItself.adcIndY x
  case adcZpX x => exact Laws.DecodesAsItself.adcZpX x
  case adcAbsY x => exact Laws.DecodesAsItself.adcAbsY x
  case adcAbsX x => exact Laws.DecodesAsItself.adcAbsX x
  case sbcIndX x => exact Laws.DecodesAsItself.sbcIndX x
  case sbcZp x => exact Laws.DecodesAsItself.sbcZp x
  case sbcImm x => exact Laws.DecodesAsItself.sbcImm x
  case sbcAbs x => exact Laws.DecodesAsItself.sbcAbs x
  case sbcIndY x => exact Laws.DecodesAsItself.sbcIndY x
  case sbcZpX x => exact Laws.DecodesAsItself.sbcZpX x
  case sbcAbsY x => exact Laws.DecodesAsItself.sbcAbsY x
  case sbcAbsX x => exact Laws.DecodesAsItself.sbcAbsX x
  case andIndX x => exact Laws.DecodesAsItself.andIndX x
  case andZp x => exact Laws.DecodesAsItself.andZp x
  case andImm x => exact Laws.DecodesAsItself.andImm x
  case andAbs x => exact Laws.DecodesAsItself.andAbs x
  case andIndY x => exact Laws.DecodesAsItself.andIndY x
  case andZpX x => exact Laws.DecodesAsItself.andZpX x
  case andAbsY x => exact Laws.DecodesAsItself.andAbsY x
  case andAbsX x => exact Laws.DecodesAsItself.andAbsX x
  case oraIndX x => exact Laws.DecodesAsItself.oraIndX x
  case oraZp x => exact Laws.DecodesAsItself.oraZp x
  case oraImm x => exact Laws.DecodesAsItself.oraImm x
  case oraAbs x => exact Laws.DecodesAsItself.oraAbs x
  case oraIndY x => exact Laws.DecodesAsItself.oraIndY x
  case oraZpX x => exact Laws.DecodesAsItself.oraZpX x
  case oraAbsY x => exact Laws.DecodesAsItself.oraAbsY x
  case oraAbsX x => exact Laws.DecodesAsItself.oraAbsX x
  case eorIndX x => exact Laws.DecodesAsItself.eorIndX x
  case eorZp x => exact Laws.DecodesAsItself.eorZp x
  case eorImm x => exact Laws.DecodesAsItself.eorImm x
  case eorAbs x => exact Laws.DecodesAsItself.eorAbs x
  case eorIndY x => exact Laws.DecodesAsItself.eorIndY x
  case eorZpX x => exact Laws.DecodesAsItself.eorZpX x
  case eorAbsY x => exact Laws.DecodesAsItself.eorAbsY x
  case eorAbsX x => exact Laws.DecodesAsItself.eorAbsX x
  case cmpIndX x => exact Laws.DecodesAsItself.cmpIndX x
  case cmpZp x => exact Laws.DecodesAsItself.cmpZp x
  case cmpImm x => exact Laws.DecodesAsItself.cmpImm x
  case cmpAbs x => exact Laws.DecodesAsItself.cmpAbs x
  case cmpIndY x => exact Laws.DecodesAsItself.cmpIndY x
  case cmpZpX x => exact Laws.DecodesAsItself.cmpZpX x
  case cmpAbsY x => exact Laws.DecodesAsItself.cmpAbsY x
  case cmpAbsX x => exact Laws.DecodesAsItself.cmpAbsX x
  case cpxImm x => exact Laws.DecodesAsItself.cpxImm x
  case cpxZp x => exact Laws.DecodesAsItself.cpxZp x
  case cpxAbs x => exact Laws.DecodesAsItself.cpxAbs x
  case cpyImm x => exact Laws.DecodesAsItself.cpyImm x
  case cpyZp x => exact Laws.DecodesAsItself.cpyZp x
  case cpyAbs x => exact Laws.DecodesAsItself.cpyAbs x
  case bitZp x => exact Laws.DecodesAsItself.bitZp x
  case bitAbs x => exact Laws.DecodesAsItself.bitAbs x
  case aslZp x => exact Laws.DecodesAsItself.aslZp x
  case aslAcc => exact Laws.DecodesAsItself.aslAcc
  case aslAbs x => exact Laws.DecodesAsItself.aslAbs x
  case aslZpX x => exact Laws.DecodesAsItself.aslZpX x
  case aslAbsX x => exact Laws.DecodesAsItself.aslAbsX x
  case lsrZp x => exact Laws.DecodesAsItself.lsrZp x
  case lsrAcc => exact Laws.DecodesAsItself.lsrAcc
  case lsrAbs x => exact Laws.DecodesAsItself.lsrAbs x
  case lsrZpX x => exact Laws.DecodesAsItself.lsrZpX x
  case lsrAbsX x => exact Laws.DecodesAsItself.lsrAbsX x
  case rolZp x => exact Laws.DecodesAsItself.rolZp x
  case rolAcc => exact Laws.DecodesAsItself.rolAcc
  case rolAbs x => exact Laws.DecodesAsItself.rolAbs x
  case rolZpX x => exact Laws.DecodesAsItself.rolZpX x
  case rolAbsX x => exact Laws.DecodesAsItself.rolAbsX x
  case rorZp x => exact Laws.DecodesAsItself.rorZp x
  case rorAcc => exact Laws.DecodesAsItself.rorAcc
  case rorAbs x => exact Laws.DecodesAsItself.rorAbs x
  case rorZpX x => exact Laws.DecodesAsItself.rorZpX x
  case rorAbsX x => exact Laws.DecodesAsItself.rorAbsX x
  case incZp x => exact Laws.DecodesAsItself.incZp x
  case incAbs x => exact Laws.DecodesAsItself.incAbs x
  case incZpX x => exact Laws.DecodesAsItself.incZpX x
  case incAbsX x => exact Laws.DecodesAsItself.incAbsX x
  case decZp x => exact Laws.DecodesAsItself.decZp x
  case decAbs x => exact Laws.DecodesAsItself.decAbs x
  case decZpX x => exact Laws.DecodesAsItself.decZpX x
  case decAbsX x => exact Laws.DecodesAsItself.decAbsX x
  case inx => exact Laws.DecodesAsItself.inx
  case iny => exact Laws.DecodesAsItself.iny
  case dex => exact Laws.DecodesAsItself.dex
  case dey => exact Laws.DecodesAsItself.dey
  case jmpAbs x => exact Laws.DecodesAsItself.jmpAbs x
  case jmpInd x => exact Laws.DecodesAsItself.jmpInd x
  case jsr x => exact Laws.DecodesAsItself.jsr x
  case rts => exact Laws.DecodesAsItself.rts
  case rti => exact Laws.DecodesAsItself.rti
  case brk => exact Laws.DecodesAsItself.brk
  case bcc x => exact Laws.DecodesAsItself.bcc x
  case bcs x => exact Laws.DecodesAsItself.bcs x
  case beq x => exact Laws.DecodesAsItself.beq x
  case bne x => exact Laws.DecodesAsItself.bne x
  case bmi x => exact Laws.DecodesAsItself.bmi x
  case bpl x => exact Laws.DecodesAsItself.bpl x
  case bvc x => exact Laws.DecodesAsItself.bvc x
  case bvs x => exact Laws.DecodesAsItself.bvs x
  case nop => exact Laws.DecodesAsItself.nop
  case pha => exact Laws.DecodesAsItself.pha
  case php => exact Laws.DecodesAsItself.php
  case pla => exact Laws.DecodesAsItself.pla
  case plp => exact Laws.DecodesAsItself.plp
  case clc => exact Laws.DecodesAsItself.clc
  case sec => exact Laws.DecodesAsItself.sec
  case cli => exact Laws.DecodesAsItself.cli
  case sei => exact Laws.DecodesAsItself.sei
  case cld => exact Laws.DecodesAsItself.cld
  case sed => exact Laws.DecodesAsItself.sed
  case clv => exact Laws.DecodesAsItself.clv
  case unknown x => exact Laws.DecodesAsItself.unknown x

/-- Bytes past the operand play no part. -/
theorem decodeBytes_congr {op b1 b2 c1 c2 : Byte}
    (h : [b1, b2].take (operandLengthOf op) = [c1, c2].take (operandLengthOf op)) :
    decodeBytes op b1 b2 = decodeBytes op c1 c2 := by
  rcases decodeBytes_known_or_unknown op c1 c2 with hk | hk
  · have := decodesAsItself (decodeBytes op c1 c2) (wf_of_known hk) b1 b2
    rw [decodeBytes_operandBytes, decodeBytes_opcode, decodeBytes_row] at this
    exact this h
  · rcases decodeBytes_known_or_unknown op b1 b2 with hj | hj
    · rw [decodeBytes_row, ← decodeBytes_row op c1 c2, hk] at hj
      exact absurd rfl hj
    · rw [hj, hk]

/-- Decoding three bytes: the instruction `decodeBytes` reads, and the bytes after it. -/
theorem decode_three (op b1 b2 : Byte) :
    decode [op, b1, b2] = .ok (decodeBytes op b1 b2, [b1, b2].drop (operandLengthOf op)) := by
  rcases operandLength_cases (decodeBytes op 0 0).row.mode with h | h | h <;> change operandLengthOf op = _ at h
  · rw [h]; exact decode_none _ h (decodeBytes_congr (by rw [h]; rfl))
  · rw [h]; exact decode_one _ h (decodeBytes_congr (by rw [h]; rfl))
  · rw [h]; exact decode_two _ h rfl

end Sys2Proof
end

