-- ==== Sys2Proof/Laws/Memory.lean ====
section
/-! SUPPORT. The laws of stores and of the bus: read after write, every operation keeps the canonical form, and two stores in canonical
form that read alike are equal. -/

namespace Sys2Proof.Machine

@[simp] theorem Store.get_nil {β : Type} (d : β) (k : Nat) : Store.get d [] k = d := rfl

variable {β : Type} [DecidableEq β] {d : β} {n b k : Nat} {l : List (Nat × β)} {v : β}

theorem Store.wfFrom_cons {j : Nat} {u : β} :
    Store.wfFrom d n b ((j, u) :: l) = true ↔ b ≤ j ∧ j < n ∧ u ≠ d ∧ Store.wfFrom d n (j + 1) l = true := by
  simp [Store.wfFrom, and_assoc]

theorem Store.wfFrom_mono {b' : Nat} (h : Store.wfFrom d n b l = true) (hb : b' ≤ b) : Store.wfFrom d n b' l = true := by
  cases l with
  | nil => rfl
  | cons e l => exact Store.wfFrom_cons.2 ⟨le_trans hb (Store.wfFrom_cons.1 h).1, (Store.wfFrom_cons.1 h).2⟩

/-- Below the bound of a store in canonical form, every cell is unlisted. -/
theorem Store.get_below (h : Store.wfFrom d n b l = true) (hk : k < b) : Store.get d l k = d := by
  cases l with
  | nil => rfl
  | cons e l =>
    have := (Store.wfFrom_cons.1 h).1
    simp [Store.get, show k < e.1 by omega]

theorem Store.get_entry_append (h : Store.wfFrom d n (k + 1) l = true) (j : Nat) :
    Store.get d (Store.entry d k v ++ l) j = if j = k then v else if j < k then d else Store.get d l j := by
  unfold Store.entry
  split
  · next hv =>
    subst hv
    rcases lt_trichotomy j k with hj | hj | hj
    · simp [Store.get_below h (show j < k + 1 by omega), hj]
    · subst hj
      simp [Store.get_below h (show j < j + 1 by omega)]
    · simp [show ¬ j = k by omega, show ¬ j < k by omega]
  · rcases lt_trichotomy j k with hj | hj | hj
    · simp [Store.get, hj, show ¬ j = k by omega]
    · simp [Store.get, hj]
    · simp [Store.get, show ¬ j = k by omega, show ¬ j < k by omega]

/-- Read after write, at the cell written and at every other. -/
theorem Store.get_set (h : Store.wfFrom d n b l = true) (j : Nat) :
    Store.get d (Store.set d l k v) j = if j = k then v else Store.get d l j := by
  induction l generalizing b with
  | nil =>
    have := Store.get_entry_append (d := d) (n := n) (l := []) (k := k) (v := v) rfl j
    rw [List.append_nil] at this
    rw [Store.set, this]
    simp
  | cons e l ih =>
    obtain ⟨i, u⟩ := e
    obtain ⟨hb, hn, hu, hl⟩ := Store.wfFrom_cons.1 h
    unfold Store.set
    split
    · next hk =>
      have h' : Store.wfFrom d n (k + 1) ((i, u) :: l) = true := Store.wfFrom_cons.2 ⟨hk, hn, hu, hl⟩
      rw [Store.get_entry_append h' j]
      by_cases hjk : j = k
      · simp [hjk]
      · by_cases hj : j < k
        · rw [Store.get_below h' (by omega : j < k + 1)]
          simp [hj]
        · simp [hjk, hj]
    · next hk =>
      split
      · next hki =>
        subst hki
        rw [Store.get_entry_append hl j]
        by_cases hjk : j = k
        · simp [hjk]
        · by_cases hj : j < k
          · simp [Store.get, hj, hjk]
          · simp [Store.get, hj, hjk]
      · next hki =>
        simp only [Store.get, ih hl]
        by_cases hjk : j = k
        · subst hjk
          simp [hk, hki]
        · simp [hjk]

theorem Store.wfFrom_entry_append (h : Store.wfFrom d n (k + 1) l = true) (hb : b ≤ k) (hk : k < n) :
    Store.wfFrom d n b (Store.entry d k v ++ l) = true := by
  unfold Store.entry
  split
  · exact Store.wfFrom_mono h (by omega)
  · next hv => exact Store.wfFrom_cons.2 ⟨hb, hk, hv, h⟩

/-- A write keeps the canonical form. -/
theorem Store.set_wfFrom (h : Store.wfFrom d n b l = true) (hb : b ≤ k) (hk : k < n) :
    Store.wfFrom d n b (Store.set d l k v) = true := by
  induction l generalizing b with
  | nil =>
    have := Store.wfFrom_entry_append (d := d) (n := n) (l := []) (k := k) (v := v) (b := b) rfl hb hk
    rwa [List.append_nil] at this
  | cons e l ih =>
    obtain ⟨i, u⟩ := e
    obtain ⟨hbi, hn, hu, hl⟩ := Store.wfFrom_cons.1 h
    unfold Store.set
    split
    · next hki => exact Store.wfFrom_entry_append (Store.wfFrom_cons.2 ⟨hki, hn, hu, hl⟩) hb hk
    · split
      · next hki =>
        subst hki
        exact Store.wfFrom_entry_append hl hb hk
      · exact Store.wfFrom_cons.2 ⟨hbi, hn, hu, ih hl (by omega)⟩

/-- At and above the size of a store in canonical form, every cell is unlisted. -/
theorem Store.get_above (h : Store.wfFrom d n b l = true) (hk : n ≤ k) : Store.get d l k = d := by
  induction l generalizing b with
  | nil => rfl
  | cons e l ih =>
    obtain ⟨_, hn, _, hl⟩ := Store.wfFrom_cons.1 h
    simp [Store.get, show ¬ k < e.1 by omega, show ¬ k = e.1 by omega, ih hl]

/-- Two stores in canonical form that read alike are the same list. -/
theorem Store.ext_of_get {l' : List (Nat × β)} (h : Store.wfFrom d n b l = true) (h' : Store.wfFrom d n b l' = true)
    (he : ∀ j, Store.get d l j = Store.get d l' j) : l = l' := by
  induction l generalizing b l' with
  | nil =>
    cases l' with
    | nil => rfl
    | cons e l' =>
      have := he e.1
      exact absurd (by simpa [Store.get] using this.symm) (Store.wfFrom_cons.1 h').2.2.1
  | cons e l ih =>
    obtain ⟨i, u⟩ := e
    obtain ⟨hb, hn, hu, hl⟩ := Store.wfFrom_cons.1 h
    cases l' with
    | nil => exact absurd (by simpa [Store.get] using he i) hu
    | cons e' l' =>
      obtain ⟨i', u'⟩ := e'
      obtain ⟨hb', hn', hu', hl'⟩ := Store.wfFrom_cons.1 h'
      rcases lt_trichotomy i i' with hlt | heq | hgt
      · exact absurd (by simpa [Store.get, hlt] using he i) hu
      · subst heq
        have huu : u = u' := by simpa [Store.get] using he i
        subst huu
        congr 1
        refine ih hl hl' fun j => ?_
        rcases Nat.lt_or_ge i j with hj | hj
        · simpa [Store.get, show ¬ j < i by omega, show ¬ j = i by omega] using he j
        · rw [Store.get_below hl (by omega), Store.get_below hl' (by omega)]
      · exact absurd (by simpa [Store.get, hgt] using (he i').symm) hu'

/-! The bus. -/

variable {m : Memory}

@[simp] theorem Memory.read_nil (a : Word) : Memory.read [] a = Memory.unlisted := rfl

/-- A byte read after a write (20_memory.md R64). -/
theorem Memory.read_write (h : m.wf = true) (a c : Word) (v : Byte) :
    (m.write a v).read c = if c = a then v else m.read c := by
  unfold Memory.read Memory.write
  rw [Store.get_set h]
  simp [BitVec.toNat_inj]

theorem Memory.read_write_same (h : m.wf = true) (a : Word) (v : Byte) : (m.write a v).read a = v := by
  simp [Memory.read_write h]

theorem Memory.read_write_other (h : m.wf = true) {a c : Word} (hc : c ≠ a) (v : Byte) :
    (m.write a v).read c = m.read c := by
  simp [Memory.read_write h, hc]

/-- A write keeps the canonical form of the bus. -/
theorem Memory.write_wf (h : m.wf = true) (a : Word) (v : Byte) : (m.write a v).wf = true :=
  Store.set_wfFrom h (Nat.zero_le _) a.isLt

/-- A block write keeps the canonical form of the bus. -/
theorem Memory.writeBlock_wf (h : m.wf = true) (a : Word) (vs : List Byte) : (m.writeBlock a vs).wf = true := by
  induction vs generalizing m a with
  | nil => exact h
  | cons v vs ih => exact ih (Memory.write_wf h a v) (a + 1)

/-- What a byte of the bus is after a block write that is no longer than the bus. -/
theorem Memory.read_writeBlock (h : m.wf = true) (a c : Word) (vs : List Byte) (hl : vs.length ≤ 65536) :
    (m.writeBlock a vs).read c = if (c - a).toNat < vs.length then vs.getD (c - a).toNat 0 else m.read c := by
  induction vs generalizing m a with
  | nil => simp [Memory.writeBlock]
  | cons v vs ih =>
    have hl' : vs.length + 1 ≤ 65536 := hl
    rw [Memory.writeBlock, ih (Memory.write_wf h a v) (a + 1) (by omega), Memory.read_write h]
    by_cases hc : c = a
    · subst hc
      have : (c - (c + 1)).toNat = 65535 := by bv_omega
      rw [if_neg (by omega), if_pos rfl]
      simp
    · have e : (c - a).toNat = (c - (a + 1)).toNat + 1 := by bv_omega
      simp only [e, List.length_cons, Nat.add_lt_add_iff_right, List.getD_cons_succ, if_neg hc]

/-- Equal bytes at every address are equal buses. -/
theorem Memory.ext_of_read {m' : Memory} (h : m.wf = true) (h' : m'.wf = true)
    (he : ∀ a : Word, m.read a = m'.read a) : m = m' := by
  refine Store.ext_of_get h h' fun j => ?_
  rcases Nat.lt_or_ge j 65536 with hj | hj
  · simpa [Memory.read, Nat.mod_eq_of_lt hj] using he (BitVec.ofNat 16 j)
  · rw [Store.get_above h hj, Store.get_above h' hj]

end Sys2Proof.Machine
end

