-- ==== Sys2Proof/Laws/State.lean ====
section
/-! SUPPORT. What each named update of the state does to each of its parts, one lemma a part, true by rfl. -/

namespace Sys2Proof.Machine

variable (s : State)

/-! `State.setReg` -/

@[simp] theorem setReg_nmiRequest (r : Reg) (v : Byte) : (s.setReg r v).nmiRequest = s.nmiRequest := by cases r <;> rfl
@[simp] theorem setReg_video (r : Reg) (v : Byte) : (s.setReg r v).video = s.video := by cases r <;> rfl
@[simp] theorem setReg_audio (r : Reg) (v : Byte) : (s.setReg r v).audio = s.audio := by cases r <;> rfl
@[simp] theorem setReg_ring (r : Reg) (v : Byte) : (s.setReg r v).ring = s.ring := by cases r <;> rfl
@[simp] theorem setReg_sched (r : Reg) (v : Byte) : (s.setReg r v).sched = s.sched := by cases r <;> rfl
@[simp] theorem setReg_config (r : Reg) (v : Byte) : (s.setReg r v).config = s.config := by cases r <;> rfl
@[simp] theorem setReg_callback (r : Reg) (v : Byte) : (s.setReg r v).callback = s.callback := by cases r <;> rfl
@[simp] theorem setReg_agenda (r : Reg) (v : Byte) : (s.setReg r v).agenda = s.agenda := by cases r <;> rfl
@[simp] theorem setReg_bus (r : Reg) (v : Byte) : (s.setReg r v).bus = s.bus := by cases r <;> rfl
@[simp] theorem setReg_cycles (r : Reg) (v : Byte) : (s.setReg r v).cycles = s.cycles := by cases r <;> rfl
@[simp] theorem setReg_pc (r : Reg) (v : Byte) : (s.setReg r v).cpu.pc = s.cpu.pc := by cases r <;> rfl
@[simp] theorem setReg_p (r : Reg) (v : Byte) : (s.setReg r v).cpu.p = s.cpu.p := by cases r <;> rfl
@[simp] theorem setReg_A_a (v : Byte) : (s.setReg .A v).cpu.a = v := rfl
@[simp] theorem setReg_A_x (v : Byte) : (s.setReg .A v).cpu.x = s.cpu.x := rfl
@[simp] theorem setReg_A_y (v : Byte) : (s.setReg .A v).cpu.y = s.cpu.y := rfl
@[simp] theorem setReg_A_sp (v : Byte) : (s.setReg .A v).cpu.sp = s.cpu.sp := rfl
@[simp] theorem setReg_X_a (v : Byte) : (s.setReg .X v).cpu.a = s.cpu.a := rfl
@[simp] theorem setReg_X_x (v : Byte) : (s.setReg .X v).cpu.x = v := rfl
@[simp] theorem setReg_X_y (v : Byte) : (s.setReg .X v).cpu.y = s.cpu.y := rfl
@[simp] theorem setReg_X_sp (v : Byte) : (s.setReg .X v).cpu.sp = s.cpu.sp := rfl
@[simp] theorem setReg_Y_a (v : Byte) : (s.setReg .Y v).cpu.a = s.cpu.a := rfl
@[simp] theorem setReg_Y_x (v : Byte) : (s.setReg .Y v).cpu.x = s.cpu.x := rfl
@[simp] theorem setReg_Y_y (v : Byte) : (s.setReg .Y v).cpu.y = v := rfl
@[simp] theorem setReg_Y_sp (v : Byte) : (s.setReg .Y v).cpu.sp = s.cpu.sp := rfl
@[simp] theorem setReg_SP_a (v : Byte) : (s.setReg .SP v).cpu.a = s.cpu.a := rfl
@[simp] theorem setReg_SP_x (v : Byte) : (s.setReg .SP v).cpu.x = s.cpu.x := rfl
@[simp] theorem setReg_SP_y (v : Byte) : (s.setReg .SP v).cpu.y = s.cpu.y := rfl
@[simp] theorem setReg_SP_sp (v : Byte) : (s.setReg .SP v).cpu.sp = v := rfl
@[simp] theorem reg_setReg_same (r : Reg) (v : Byte) : (s.setReg r v).reg r = v := by cases r <;> rfl
theorem reg_setReg (r q : Reg) (v : Byte) : (s.setReg r v).reg q = if q = r then v else s.reg q := by
  cases r <;> cases q <;> rfl
@[simp] theorem reg_A : s.reg .A = s.cpu.a := rfl
@[simp] theorem reg_X : s.reg .X = s.cpu.x := rfl
@[simp] theorem reg_Y : s.reg .Y = s.cpu.y := rfl
@[simp] theorem reg_SP : s.reg .SP = s.cpu.sp := rfl
@[simp] theorem setReg_read (r : Reg) (v : Byte) (c : Word) : (s.setReg r v).read c = s.read c := by cases r <;> rfl
@[simp] theorem setReg_readWord (r : Reg) (v : Byte) (c : Word) : (s.setReg r v).readWord c = s.readWord c := by cases r <;> rfl

/-! `State.setP` and `State.updP` -/

@[simp] theorem setP_nmiRequest (p : Flags) : (s.setP p).nmiRequest = s.nmiRequest := rfl
@[simp] theorem setP_video (p : Flags) : (s.setP p).video = s.video := rfl
@[simp] theorem setP_audio (p : Flags) : (s.setP p).audio = s.audio := rfl
@[simp] theorem setP_ring (p : Flags) : (s.setP p).ring = s.ring := rfl
@[simp] theorem setP_sched (p : Flags) : (s.setP p).sched = s.sched := rfl
@[simp] theorem setP_config (p : Flags) : (s.setP p).config = s.config := rfl
@[simp] theorem setP_callback (p : Flags) : (s.setP p).callback = s.callback := rfl
@[simp] theorem setP_agenda (p : Flags) : (s.setP p).agenda = s.agenda := rfl
@[simp] theorem setP_bus (p : Flags) : (s.setP p).bus = s.bus := rfl
@[simp] theorem setP_cycles (p : Flags) : (s.setP p).cycles = s.cycles := rfl
@[simp] theorem setP_a (p : Flags) : (s.setP p).cpu.a = s.cpu.a := rfl
@[simp] theorem setP_x (p : Flags) : (s.setP p).cpu.x = s.cpu.x := rfl
@[simp] theorem setP_y (p : Flags) : (s.setP p).cpu.y = s.cpu.y := rfl
@[simp] theorem setP_sp (p : Flags) : (s.setP p).cpu.sp = s.cpu.sp := rfl
@[simp] theorem setP_pc (p : Flags) : (s.setP p).cpu.pc = s.cpu.pc := rfl
@[simp] theorem setP_p (p : Flags) : (s.setP p).cpu.p = p := rfl
@[simp] theorem setP_reg (p : Flags) (r : Reg) : (s.setP p).reg r = s.reg r := by cases r <;> rfl
@[simp] theorem setP_read (p : Flags) (c : Word) : (s.setP p).read c = s.read c := rfl
@[simp] theorem setP_readWord (p : Flags) (c : Word) : (s.setP p).readWord c = s.readWord c := rfl
@[simp] theorem updP_nmiRequest (f : Flags → Flags) : (s.updP f).nmiRequest = s.nmiRequest := rfl
@[simp] theorem updP_video (f : Flags → Flags) : (s.updP f).video = s.video := rfl
@[simp] theorem updP_audio (f : Flags → Flags) : (s.updP f).audio = s.audio := rfl
@[simp] theorem updP_ring (f : Flags → Flags) : (s.updP f).ring = s.ring := rfl
@[simp] theorem updP_sched (f : Flags → Flags) : (s.updP f).sched = s.sched := rfl
@[simp] theorem updP_config (f : Flags → Flags) : (s.updP f).config = s.config := rfl
@[simp] theorem updP_callback (f : Flags → Flags) : (s.updP f).callback = s.callback := rfl
@[simp] theorem updP_agenda (f : Flags → Flags) : (s.updP f).agenda = s.agenda := rfl
@[simp] theorem updP_bus (f : Flags → Flags) : (s.updP f).bus = s.bus := rfl
@[simp] theorem updP_cycles (f : Flags → Flags) : (s.updP f).cycles = s.cycles := rfl
@[simp] theorem updP_a (f : Flags → Flags) : (s.updP f).cpu.a = s.cpu.a := rfl
@[simp] theorem updP_x (f : Flags → Flags) : (s.updP f).cpu.x = s.cpu.x := rfl
@[simp] theorem updP_y (f : Flags → Flags) : (s.updP f).cpu.y = s.cpu.y := rfl
@[simp] theorem updP_sp (f : Flags → Flags) : (s.updP f).cpu.sp = s.cpu.sp := rfl
@[simp] theorem updP_pc (f : Flags → Flags) : (s.updP f).cpu.pc = s.cpu.pc := rfl
@[simp] theorem updP_p (f : Flags → Flags) : (s.updP f).cpu.p = f s.cpu.p := rfl
@[simp] theorem updP_reg (f : Flags → Flags) (r : Reg) : (s.updP f).reg r = s.reg r := by cases r <;> rfl
@[simp] theorem updP_read (f : Flags → Flags) (c : Word) : (s.updP f).read c = s.read c := rfl
@[simp] theorem updP_readWord (f : Flags → Flags) (c : Word) : (s.updP f).readWord c = s.readWord c := rfl

/-! `State.write` -/

@[simp] theorem write_nmiRequest (c : Word) (v : Byte) : (s.write c v).nmiRequest = s.nmiRequest := rfl
@[simp] theorem write_video (c : Word) (v : Byte) : (s.write c v).video = s.video := rfl
@[simp] theorem write_audio (c : Word) (v : Byte) : (s.write c v).audio = s.audio := rfl
@[simp] theorem write_ring (c : Word) (v : Byte) : (s.write c v).ring = s.ring := rfl
@[simp] theorem write_sched (c : Word) (v : Byte) : (s.write c v).sched = s.sched := rfl
@[simp] theorem write_config (c : Word) (v : Byte) : (s.write c v).config = s.config := rfl
@[simp] theorem write_callback (c : Word) (v : Byte) : (s.write c v).callback = s.callback := rfl
@[simp] theorem write_agenda (c : Word) (v : Byte) : (s.write c v).agenda = s.agenda := rfl
@[simp] theorem write_cycles (c : Word) (v : Byte) : (s.write c v).cycles = s.cycles := rfl
@[simp] theorem write_cpu (c : Word) (v : Byte) : (s.write c v).cpu = s.cpu := rfl
@[simp] theorem write_bus (c : Word) (v : Byte) : (s.write c v).bus = s.bus.write c v := rfl
@[simp] theorem write_reg (c : Word) (v : Byte) (r : Reg) : (s.write c v).reg r = s.reg r := by cases r <;> rfl

/-! `State.setPc` -/

@[simp] theorem setPc_nmiRequest (t : Word) (k : Nat) : (s.setPc t k).nmiRequest = s.nmiRequest := rfl
@[simp] theorem setPc_video (t : Word) (k : Nat) : (s.setPc t k).video = s.video := rfl
@[simp] theorem setPc_audio (t : Word) (k : Nat) : (s.setPc t k).audio = s.audio := rfl
@[simp] theorem setPc_ring (t : Word) (k : Nat) : (s.setPc t k).ring = s.ring := rfl
@[simp] theorem setPc_sched (t : Word) (k : Nat) : (s.setPc t k).sched = s.sched := rfl
@[simp] theorem setPc_config (t : Word) (k : Nat) : (s.setPc t k).config = s.config := rfl
@[simp] theorem setPc_callback (t : Word) (k : Nat) : (s.setPc t k).callback = s.callback := rfl
@[simp] theorem setPc_agenda (t : Word) (k : Nat) : (s.setPc t k).agenda = s.agenda := rfl
@[simp] theorem setPc_bus (t : Word) (k : Nat) : (s.setPc t k).bus = s.bus := rfl
@[simp] theorem setPc_a (t : Word) (k : Nat) : (s.setPc t k).cpu.a = s.cpu.a := rfl
@[simp] theorem setPc_x (t : Word) (k : Nat) : (s.setPc t k).cpu.x = s.cpu.x := rfl
@[simp] theorem setPc_y (t : Word) (k : Nat) : (s.setPc t k).cpu.y = s.cpu.y := rfl
@[simp] theorem setPc_sp (t : Word) (k : Nat) : (s.setPc t k).cpu.sp = s.cpu.sp := rfl
@[simp] theorem setPc_p (t : Word) (k : Nat) : (s.setPc t k).cpu.p = s.cpu.p := rfl
@[simp] theorem setPc_pc (t : Word) (k : Nat) : (s.setPc t k).cpu.pc = t := rfl
@[simp] theorem setPc_cycles (t : Word) (k : Nat) : (s.setPc t k).cycles = k := rfl
@[simp] theorem setPc_reg (t : Word) (k : Nat) (r : Reg) : (s.setPc t k).reg r = s.reg r := by cases r <;> rfl
@[simp] theorem setPc_read (t : Word) (k : Nat) (c : Word) : (s.setPc t k).read c = s.read c := rfl
@[simp] theorem setPc_readWord (t : Word) (k : Nat) (c : Word) : (s.setPc t k).readWord c = s.readWord c := rfl

end Sys2Proof.Machine
end

