-- ==== Sys2Proof/Laws/Ops.lean ====
section
/-! SUPPORT. What each shared operation does, said once as the state it answers: every part the right-hand side does not name is that
of the state before. Then what every instruction does to the parts of the state that no instruction touches. -/

namespace Sys2Proof.Machine

variable (s : State)

/-! ## The stack page -/

theorem stackAddr_toNat (sp : Byte) : (stackAddr sp).toNat = 256 + sp.toNat := by
  have := sp.isLt
  simp only [stackAddr, BitVec.toNat_add, BitVec.toNat_setWidth, BitVec.reduceToNat]
  omega

@[simp] theorem stackAddr_inj {a b : Byte} : stackAddr a = stackAddr b ↔ a = b := by
  constructor
  · intro h
    have := congrArg BitVec.toNat h
    simp only [stackAddr_toNat] at this
    exact BitVec.eq_of_toNat_eq (by omega)
  · rintro rfl; rfl

/-- No byte of the stack page is at or above 0x0200. -/
theorem ne_stackAddr {c : Word} (h : 512 ≤ c.toNat) (sp : Byte) : c ≠ stackAddr sp := by
  rintro rfl
  rw [stackAddr_toNat] at h
  have := sp.isLt
  omega

/-! ## The ends of a step -/

theorem advance_eq (row : Row) (x : Bool) :
    advance row x s = { s with
      cpu := { s.cpu with pc := s.cpu.pc + BitVec.ofNat 16 (1 + row.mode.operandLength) }
      cycles := cycleCost s.config row x 0 } := rfl

theorem redirect_eq (row : Row) (t : Word) (k : Nat) :
    redirect row t k s = { s with cpu := { s.cpu with pc := t }, cycles := cycleCost s.config row false k } := rfl

/-! ## Stack and entry -/

theorem push_eq (v : Byte) :
    push v s = { s with
      cpu := { s.cpu with sp := s.cpu.sp - 1 }, bus := s.bus.write (stackAddr s.cpu.sp) v } := rfl

theorem pop_value : (pop s).value = s.bus.read (stackAddr (s.cpu.sp + 1)) := rfl

theorem pop_state : (pop s).state = { s with cpu := { s.cpu with sp := s.cpu.sp + 1 } } := rfl

theorem pushWord_eq (w : Word) :
    pushWord w s = { s with
      cpu := { s.cpu with sp := s.cpu.sp - 2 }
      bus := (s.bus.write (stackAddr s.cpu.sp) (hi w)).write (stackAddr (s.cpu.sp - 1)) (lo w) } := by
  simp only [pushWord, push_eq]
  congr 2
  bv_omega

theorem popWord_value :
    (popWord s).value = word (s.bus.read (stackAddr (s.cpu.sp + 2))) (s.bus.read (stackAddr (s.cpu.sp + 1))) := by
  simp only [popWord, pop_value, pop_state]
  rw [show s.cpu.sp + 1 + 1 = s.cpu.sp + 2 by bv_omega]

theorem popWord_state : (popWord s).state = { s with cpu := { s.cpu with sp := s.cpu.sp + 2 } } := by
  simp only [popWord, pop_state]
  congr 2
  bv_omega

/-- The bus after the three pushes of an entry (60_exceptions.md R330). -/
theorem enter_eq (ret : Word) (b : Bool) (vector : Word) (c : Nat) :
    enter ret b vector c s =
      let bus := ((s.bus.write (stackAddr s.cpu.sp) (hi ret)).write (stackAddr (s.cpu.sp - 1)) (lo ret)).write
        (stackAddr (s.cpu.sp - 2)) (packP b s.cpu.p)
      { s with
        cpu := { s.cpu with sp := s.cpu.sp - 3, p := { s.cpu.p with i := true }, pc := bus.readWord vector }
        bus := bus
        cycles := c } := by
  simp only [enter, push_eq, pushWord_eq, State.updP, State.setP, State.setPc, State.readWord]
  congr 2
  bv_omega

/-- The vector an entry reads is the one on the bus before it: the pushes stay in the stack page. -/
theorem enter_readWord (h : s.bus.wf = true) (x y z : Byte) (a b c : Byte) {vector : Word} (hv : 512 ≤ vector.toNat)
    (hv' : vector.toNat < 65535) :
    (((s.bus.write (stackAddr x) a).write (stackAddr y) b).write (stackAddr z) c).readWord vector = s.bus.readWord vector := by
  have h1 := Memory.write_wf h (stackAddr x) a
  have h2 := Memory.write_wf h1 (stackAddr y) b
  have hv1 : 512 ≤ (vector + 1).toNat := by bv_omega
  simp only [Memory.readWord]
  rw [Memory.read_write_other h2 (ne_stackAddr hv z), Memory.read_write_other h1 (ne_stackAddr hv y),
    Memory.read_write_other h (ne_stackAddr hv x), Memory.read_write_other h2 (ne_stackAddr hv1 z),
    Memory.read_write_other h1 (ne_stackAddr hv1 y), Memory.read_write_other h (ne_stackAddr hv1 x)]

theorem pullFrame_value :
    (pullFrame s).value = word (s.bus.read (stackAddr (s.cpu.sp + 3))) (s.bus.read (stackAddr (s.cpu.sp + 2))) := by
  simp only [pullFrame, popWord_value, pop_state, State.setP]
  rw [show s.cpu.sp + 1 + 2 = s.cpu.sp + 3 by bv_omega, show s.cpu.sp + 1 + 1 = s.cpu.sp + 2 by bv_omega]

theorem pullFrame_state :
    (pullFrame s).state = { s with
      cpu := { s.cpu with sp := s.cpu.sp + 3, p := unpackP (s.bus.read (stackAddr (s.cpu.sp + 1))) } } := by
  simp only [pullFrame, popWord_state, pop_state, pop_value, State.setP]
  congr 2
  bv_omega

/-! ## Loads, stores, transfers -/

theorem load_eq (r : Reg) (row : Row) (o : Operand) :
    load r row o s = { s with
      cpu := { (s.setReg r (value o s)).cpu with
        pc := s.cpu.pc + BitVec.ofNat 16 (1 + row.mode.operandLength), p := setNZ (value o s) s.cpu.p }
      cycles := cycleCost s.config row (crossed o s) 0 } := by
  cases r <;> rfl

theorem store_eq (r : Reg) (row : Row) (o : Operand) :
    store r row o s = { s with
      cpu := { s.cpu with pc := s.cpu.pc + BitVec.ofNat 16 (1 + row.mode.operandLength) }
      bus := s.bus.write (ea o s) (s.reg r)
      cycles := cycleCost s.config row (crossed o s) 0 } := rfl

theorem transfer_eq (a b : Reg) (row : Row) :
    transfer a b row s = { s with
      cpu := { (s.setReg b (s.reg a)).cpu with
        pc := s.cpu.pc + BitVec.ofNat 16 (1 + row.mode.operandLength), p := setNZ (s.reg a) s.cpu.p }
      cycles := cycleCost s.config row false 0 } := by
  cases b <;> rfl

theorem transferToSp_eq (row : Row) :
    transferToSp row s = { s with
      cpu := { s.cpu with pc := s.cpu.pc + BitVec.ofNat 16 (1 + row.mode.operandLength), sp := s.cpu.x }
      cycles := cycleCost s.config row false 0 } := rfl

/-! ## Arithmetic and logic -/

theorem adc_eq (row : Row) (o : Operand) :
    adc row o s =
      let t := addWithCarry s.cpu.a (value o s) s.cpu.p.c
      { s with
        cpu := { s.cpu with
          a := t.result, pc := s.cpu.pc + BitVec.ofNat 16 (1 + row.mode.operandLength), p := sumFlags t s.cpu.p }
        cycles := cycleCost s.config row (crossed o s) 0 } := rfl

theorem sbc_eq (row : Row) (o : Operand) :
    sbc row o s =
      let t := addWithCarry s.cpu.a (value o s ^^^ 0xFF) s.cpu.p.c
      { s with
        cpu := { s.cpu with
          a := t.result, pc := s.cpu.pc + BitVec.ofNat 16 (1 + row.mode.operandLength), p := sumFlags t s.cpu.p }
        cycles := cycleCost s.config row (crossed o s) 0 } := rfl

theorem logic_eq (f : Byte → Byte → Byte) (row : Row) (o : Operand) :
    logic f row o s = { s with
      cpu := { s.cpu with
        a := f s.cpu.a (value o s), pc := s.cpu.pc + BitVec.ofNat 16 (1 + row.mode.operandLength)
        p := setNZ (f s.cpu.a (value o s)) s.cpu.p }
      cycles := cycleCost s.config row (crossed o s) 0 } := rfl

theorem compareReg_eq (r : Reg) (row : Row) (o : Operand) :
    compareReg r row o s = { s with
      cpu := { s.cpu with
        pc := s.cpu.pc + BitVec.ofNat 16 (1 + row.mode.operandLength), p := compareFlags (s.reg r) (value o s) s.cpu.p }
      cycles := cycleCost s.config row (crossed o s) 0 } := rfl

theorem bitTest_eq (row : Row) (o : Operand) :
    bitTest row o s = { s with
      cpu := { s.cpu with
        pc := s.cpu.pc + BitVec.ofNat 16 (1 + row.mode.operandLength), p := bitFlags s.cpu.a (value o s) s.cpu.p }
      cycles := cycleCost s.config row (crossed o s) 0 } := rfl

/-! ## Shifts, increments and decrements -/

theorem shiftA_eq (f : Byte → Bool → Shifted) (row : Row) :
    shiftA f row s = { s with
      cpu := { s.cpu with
        a := (f s.cpu.a s.cpu.p.c).result, pc := s.cpu.pc + BitVec.ofNat 16 (1 + row.mode.operandLength)
        p := shiftFlags (f s.cpu.a s.cpu.p.c) s.cpu.p }
      cycles := cycleCost s.config row false 0 } := rfl

theorem shiftMem_eq (f : Byte → Bool → Shifted) (row : Row) (o : Operand) :
    shiftMem f row o s = { s with
      cpu := { s.cpu with
        pc := s.cpu.pc + BitVec.ofNat 16 (1 + row.mode.operandLength)
        p := shiftFlags (f (s.bus.read (ea o s)) s.cpu.p.c) s.cpu.p }
      bus := s.bus.write (ea o s) (f (s.bus.read (ea o s)) s.cpu.p.c).result
      cycles := cycleCost s.config row (crossed o s) 0 } := rfl

theorem stepMem_eq (k : Byte) (row : Row) (o : Operand) :
    stepMem k row o s = { s with
      cpu := { s.cpu with
        pc := s.cpu.pc + BitVec.ofNat 16 (1 + row.mode.operandLength), p := setNZ (s.bus.read (ea o s) + k) s.cpu.p }
      bus := s.bus.write (ea o s) (s.bus.read (ea o s) + k)
      cycles := cycleCost s.config row (crossed o s) 0 } := rfl

theorem stepReg_eq (r : Reg) (k : Byte) (row : Row) :
    stepReg r k row s = { s with
      cpu := { (s.setReg r (s.reg r + k)).cpu with
        pc := s.cpu.pc + BitVec.ofNat 16 (1 + row.mode.operandLength), p := setNZ (s.reg r + k) s.cpu.p }
      cycles := cycleCost s.config row false 0 } := by
  cases r <;> rfl

/-! ## Control transfer -/

theorem jump_eq (row : Row) (o : Operand) :
    jump row o s = { s with cpu := { s.cpu with pc := ea o s }, cycles := cycleCost s.config row false 0 } := rfl

theorem callTo_eq (row : Row) (o : Operand) :
    callTo row o s = { s with
      cpu := { s.cpu with pc := ea o s, sp := s.cpu.sp - 2 }
      bus := (s.bus.write (stackAddr s.cpu.sp) (hi (s.cpu.pc + 2))).write (stackAddr (s.cpu.sp - 1)) (lo (s.cpu.pc + 2))
      cycles := cycleCost s.config row false 0 } := by
  rw [callTo, redirect_eq, pushWord_eq]

theorem returnFromCall_eq (row : Row) :
    returnFromCall row s = { s with
      cpu := { s.cpu with
        pc := word (s.bus.read (stackAddr (s.cpu.sp + 2))) (s.bus.read (stackAddr (s.cpu.sp + 1))) + 1, sp := s.cpu.sp + 2 }
      cycles := cycleCost s.config row false 0 } := by
  simp only [returnFromCall, redirect_eq, popWord_value, popWord_state]

theorem returnFromInterrupt_eq (row : Row) :
    returnFromInterrupt row s = { s with
      cpu := { s.cpu with
        pc := word (s.bus.read (stackAddr (s.cpu.sp + 3))) (s.bus.read (stackAddr (s.cpu.sp + 2)))
        sp := s.cpu.sp + 3, p := unpackP (s.bus.read (stackAddr (s.cpu.sp + 1))) }
      cycles := cycleCost s.config row false 0 } := by
  simp only [returnFromInterrupt, redirect_eq, pullFrame_value, pullFrame_state]

theorem branch_eq (cond : Bool) (row : Row) (r : Byte) :
    branch cond row r s = { s with
      cpu := { s.cpu with
        pc := if cond then branchTarget r s else s.cpu.pc + BitVec.ofNat 16 (1 + row.mode.operandLength) }
      cycles := cycleCost s.config row false (if cond then branchExtra r s else 0) } := by
  cases cond <;> rfl

/-! ## Stack and flags -/

theorem pushByte_eq (v : Byte) (row : Row) :
    pushByte v row s = { s with
      cpu := { s.cpu with pc := s.cpu.pc + BitVec.ofNat 16 (1 + row.mode.operandLength), sp := s.cpu.sp - 1 }
      bus := s.bus.write (stackAddr s.cpu.sp) v
      cycles := cycleCost s.config row false 0 } := rfl

theorem pullA_eq (row : Row) :
    pullA row s = { s with
      cpu := { s.cpu with
        a := s.bus.read (stackAddr (s.cpu.sp + 1)), sp := s.cpu.sp + 1
        pc := s.cpu.pc + BitVec.ofNat 16 (1 + row.mode.operandLength)
        p := setNZ (s.bus.read (stackAddr (s.cpu.sp + 1))) s.cpu.p }
      cycles := cycleCost s.config row false 0 } := rfl

theorem pullP_eq (row : Row) :
    pullP row s = { s with
      cpu := { s.cpu with
        sp := s.cpu.sp + 1, pc := s.cpu.pc + BitVec.ofNat 16 (1 + row.mode.operandLength)
        p := unpackP (s.bus.read (stackAddr (s.cpu.sp + 1))) }
      cycles := cycleCost s.config row false 0 } := rfl

theorem writeFlag_eq (f : Flags → Flags) (row : Row) :
    writeFlag f row s = { s with
      cpu := { s.cpu with pc := s.cpu.pc + BitVec.ofNat 16 (1 + row.mode.operandLength), p := f s.cpu.p }
      cycles := cycleCost s.config row false 0 } := rfl

end Sys2Proof.Machine
end

