-- ==== Sys2Proof/Laws/Units.lean ====
section
/-! SUPPORT. What the video unit, the audio unit and the ring's producer do to each part of the state, one lemma a part. -/

namespace Sys2Proof.Machine

variable (s : State)

/-! ## One PPU step -/

theorem nextPpuCycle_eq {c : Nat} (h : c < framePpuCycles) : nextPpuCycle c = (c + 1) % framePpuCycles := by
  unfold nextPpuCycle framePpuCycles at *
  split <;> omega

theorem nextPpuCycle_lt {c : Nat} (h : c < framePpuCycles) : nextPpuCycle c < framePpuCycles := by
  rw [nextPpuCycle_eq h]
  exact Nat.mod_lt _ (by decide)

/-- The three things a PPU step can do: start VBlank, end it, or move on (60_exceptions.md R362). -/
theorem ppuStep_cases :
    let c := nextPpuCycle s.video.ppuCycle
    let v := stateOf (c / ppuPerScanline)
    let t := { s with video := { s.video with ppuCycle := c, scanline := c / ppuPerScanline, vstate := v } }
    (s.video.vstate = .visible ∧ v = .vblankActive ∧ ppuStep s = vblankStart t) ∨
    (s.video.vstate = .vblankActive ∧ v = .vblankDone ∧ ppuStep s = vblankEnd t) ∨
    (¬(s.video.vstate = .visible ∧ v = .vblankActive) ∧ ¬(s.video.vstate = .vblankActive ∧ v = .vblankDone) ∧
      ppuStep s = t) := by
  simp only [ppuStep]
  split_ifs with h1 h2
  · exact .inl ⟨h1.1, h1.2, rfl⟩
  · exact .inr (.inl ⟨h2.1, h2.2, rfl⟩)
  · exact .inr (.inr ⟨h1, h2, rfl⟩)

@[simp] theorem ppuStep_ppuCycle : (ppuStep s).video.ppuCycle = nextPpuCycle s.video.ppuCycle := by
  rcases ppuStep_cases s with ⟨_, _, h⟩ | ⟨_, _, h⟩ | ⟨_, _, h⟩ <;> rw [h] <;> rfl

@[simp] theorem ppuStep_scanline : (ppuStep s).video.scanline = nextPpuCycle s.video.ppuCycle / ppuPerScanline := by
  rcases ppuStep_cases s with ⟨_, _, h⟩ | ⟨_, _, h⟩ | ⟨_, _, h⟩ <;> rw [h] <;> rfl

@[simp] theorem ppuStep_vstate :
    (ppuStep s).video.vstate = stateOf (nextPpuCycle s.video.ppuCycle / ppuPerScanline) := by
  rcases ppuStep_cases s with ⟨_, _, h⟩ | ⟨_, _, h⟩ | ⟨_, _, h⟩ <;> rw [h] <;> rfl

@[simp] theorem ppuStep_cpu : (ppuStep s).cpu = s.cpu := by
  rcases ppuStep_cases s with ⟨_, _, h⟩ | ⟨_, _, h⟩ | ⟨_, _, h⟩ <;> rw [h] <;> rfl

@[simp] theorem ppuStep_audio : (ppuStep s).audio = s.audio := by
  rcases ppuStep_cases s with ⟨_, _, h⟩ | ⟨_, _, h⟩ | ⟨_, _, h⟩ <;> rw [h] <;> rfl

@[simp] theorem ppuStep_ring : (ppuStep s).ring = s.ring := by
  rcases ppuStep_cases s with ⟨_, _, h⟩ | ⟨_, _, h⟩ | ⟨_, _, h⟩ <;> rw [h] <;> rfl

@[simp] theorem ppuStep_sched : (ppuStep s).sched = s.sched := by
  rcases ppuStep_cases s with ⟨_, _, h⟩ | ⟨_, _, h⟩ | ⟨_, _, h⟩ <;> rw [h] <;> rfl

@[simp] theorem ppuStep_cycles : (ppuStep s).cycles = s.cycles := by
  rcases ppuStep_cases s with ⟨_, _, h⟩ | ⟨_, _, h⟩ | ⟨_, _, h⟩ <;> rw [h] <;> rfl

@[simp] theorem ppuStep_config : (ppuStep s).config = s.config := by
  rcases ppuStep_cases s with ⟨_, _, h⟩ | ⟨_, _, h⟩ | ⟨_, _, h⟩ <;> rw [h] <;> rfl

@[simp] theorem ppuStep_callback : (ppuStep s).callback = s.callback := by
  rcases ppuStep_cases s with ⟨_, _, h⟩ | ⟨_, _, h⟩ | ⟨_, _, h⟩ <;> rw [h] <;> rfl

@[simp] theorem ppuStep_agenda : (ppuStep s).agenda = s.agenda := by
  rcases ppuStep_cases s with ⟨_, _, h⟩ | ⟨_, _, h⟩ | ⟨_, _, h⟩ <;> rw [h] <;> rfl

theorem ppuStep_bus_wf (h : s.bus.wf = true) : (ppuStep s).bus.wf = true := by
  rcases ppuStep_cases s with ⟨_, _, e⟩ | ⟨_, _, e⟩ | ⟨_, _, e⟩ <;> rw [e]
  · exact Memory.write_wf h _ _
  · exact Memory.write_wf h _ _
  · exact h

/-- Of the bus, a PPU step writes the status byte alone (60_exceptions.md R360). -/
theorem ppuStep_read_other (h : s.bus.wf = true) {c : Word} (hc : c ≠ vblankStatusAddr) : (ppuStep s).read c = s.read c := by
  rcases ppuStep_cases s with ⟨_, _, e⟩ | ⟨_, _, e⟩ | ⟨_, _, e⟩ <;> rw [e]
  · exact Memory.read_write_other h hc _
  · exact Memory.read_write_other h hc _
  · rfl

/-! ## Many PPU steps -/

theorem ppuSteps_succ (n : Nat) : ppuSteps (n + 1) s = ppuStep (ppuSteps n s) := by
  induction n generalizing s with
  | zero => rfl
  | succ n ih => exact ih (ppuStep s)

theorem ppuSteps_add (m n : Nat) : ppuSteps (m + n) s = ppuSteps n (ppuSteps m s) := by
  induction n with
  | zero => rfl
  | succ n ih => rw [← Nat.add_assoc, ppuSteps_succ, ih, ← ppuSteps_succ]

/-- Whatever each PPU step keeps, many keep. -/
theorem ppuSteps_keeps {p : State → Prop} (hp : ∀ s, p s → p (ppuStep s)) (n : Nat) (h : p s) : p (ppuSteps n s) := by
  induction n with
  | zero => exact h
  | succ n ih => rw [ppuSteps_succ]; exact hp _ ih

/-! ## The producer -/

@[simp] theorem produceAll_nil : produceAll [] s = s := rfl

theorem produceAll_append (u v : List Sample) : produceAll (u ++ v) s = produceAll v (produceAll u s) := by
  induction u generalizing s with
  | nil => rfl
  | cons a u ih => exact ih (produce a s)

/-- Producing samples writes slots, moves the write cursor, and leaves word of it for the callback agent: nothing else. -/
theorem produceAll_frame (vs : List Sample) :
    produceAll vs s = { s with
      ring := { s.ring with slots := (produceAll vs s).ring.slots, wcur := s.ring.wcur + vs.length }
      callback := { s.callback with unseen := (produceAll vs s).callback.unseen } } := by
  induction vs generalizing s with
  | nil => rfl
  | cons v vs ih =>
    rw [produceAll, ih]
    simp only [produce, Callback.note, List.length_cons]
    congr 2
    omega

theorem produceAll_slots_wf (vs : List Sample) (h0 : 0 < s.config.ringCapacity)
    (h : Store.wf (0 : Sample) s.config.ringCapacity s.ring.slots = true) :
    Store.wf (0 : Sample) s.config.ringCapacity (produceAll vs s).ring.slots = true := by
  induction vs generalizing s with
  | nil => exact h
  | cons v vs ih => exact ih (produce v s) h0 (Store.set_wfFrom h (Nat.zero_le _) (Nat.mod_lt _ h0))

/-- A flush moves the staged samples and nothing else. -/
theorem flush_frame :
    flush s = { s with
      audio := { s.audio with staging := [] }
      ring := { s.ring with slots := (flush s).ring.slots, wcur := s.ring.wcur + s.audio.staging.length }
      callback := { s.callback with unseen := (flush s).callback.unseen } } := by
  rw [flush, produceAll_frame]
  rfl

/-! ## The audio unit -/

/-- A sample depends on the launch parameters and the bus. -/
theorem synth_congr {s t : State} (hc : s.config = t.config) (hb : s.bus = t.bus) (n : Nat) : synth s n = synth t n := by
  simp only [synth, channelPeriod, channelDuty, State.read, hc, hb]

/-- Synthesising touches the audio unit, the ring's slots and write cursor, and the word left for the callback agent. -/
theorem synthesise_frame :
    synthesise s = { s with
      audio := (synthesise s).audio
      ring := { s.ring with slots := (synthesise s).ring.slots, wcur := (synthesise s).ring.wcur }
      callback := { s.callback with unseen := (synthesise s).callback.unseen } } := by
  simp only [synthesise]
  split
  · rw [flush_frame]
  · rfl

@[simp] theorem synthesise_apuCycles : (synthesise s).audio.apuCycles = s.audio.apuCycles := by
  simp only [synthesise]
  split
  · rw [flush_frame]
  · rfl

@[simp] theorem synthesise_samplesMade : (synthesise s).audio.samplesMade = s.audio.samplesMade + 1 := by
  simp only [synthesise]
  split
  · rw [flush_frame]
  · rfl

theorem synthesiseN_frame (n : Nat) :
    synthesiseN n s = { s with
      audio := (synthesiseN n s).audio
      ring := { s.ring with slots := (synthesiseN n s).ring.slots, wcur := (synthesiseN n s).ring.wcur }
      callback := { s.callback with unseen := (synthesiseN n s).callback.unseen } } := by
  induction n generalizing s with
  | zero => rfl
  | succ n ih =>
    rw [synthesiseN, ih, synthesise_frame]

/-- Advancing the audio unit touches the audio unit, the ring's slots and write cursor, and the word left for the callback agent. -/
theorem audioAdvance_frame (c : Nat) :
    audioAdvance c s = { s with
      audio := (audioAdvance c s).audio
      ring := { s.ring with slots := (audioAdvance c s).ring.slots, wcur := (audioAdvance c s).ring.wcur }
      callback := { s.callback with unseen := (audioAdvance c s).callback.unseen } } := by
  simp only [audioAdvance]
  rw [synthesiseN_frame]

/-- Whatever each synthesised sample keeps, many keep. -/
theorem synthesiseN_keeps {p : State → Prop} (hp : ∀ s, p s → p (synthesise s)) (n : Nat) (h : p s) :
    p (synthesiseN n s) := by
  induction n generalizing s with
  | zero => exact h
  | succ n ih => exact ih (synthesise s) (hp s h)

/-! ## The feed and the end of a tick -/

/-- A feed touches no CPU register (60_exceptions.md R342). -/
@[simp] theorem feed_cpu (c : Nat) : (feed c s).cpu = s.cpu := by
  rw [feed, audioAdvance_frame]
  exact ppuSteps_keeps (p := fun t => t.cpu = s.cpu) _ (fun t ht => (ppuStep_cpu t).trans ht) _ rfl

/-- Of the bus, a feed writes the status byte alone: the audio unit writes no bus byte (60_exceptions.md R360, R377). -/
theorem feed_read_other (c : Nat) (h : s.bus.wf = true) {a : Word} (ha : a ≠ vblankStatusAddr) :
    (feed c s).read a = s.read a := by
  let t := { s with sched := { s.sched with totalCycles := s.sched.totalCycles + c } }
  have hv : (videoAdvance c t).bus.wf = true ∧ (videoAdvance c t).read a = s.read a :=
    ppuSteps_keeps (p := fun u => u.bus.wf = true ∧ u.read a = s.read a) t
      (fun u hu => ⟨ppuStep_bus_wf u hu.1, (ppuStep_read_other u hu.1 ha).trans hu.2⟩) _ ⟨h, rfl⟩
  rw [feed, audioAdvance_frame]
  exact hv.2

@[simp] theorem endTick_cpu : (endTick s).cpu = s.cpu := feed_cpu s s.cycles

theorem endTick_read_other (h : s.bus.wf = true) {a : Word} (ha : a ≠ vblankStatusAddr) : (endTick s).read a = s.read a :=
  feed_read_other s s.cycles h ha

/-! ## The consumer -/

@[simp] theorem lookBack_zero_unseen : (lookBack 0 s).callback.unseen = [] := by simp [lookBack]

/-- Looking back changes the word left for the callback agent alone. -/
theorem lookBack_frame (lag : Nat) :
    lookBack lag s = { s with callback := { s.callback with unseen := s.callback.unseen.take lag } } := rfl

/-- A call writes the read cursor and the callback agent's own part. -/
theorem pullCall_frame (k : Nat) :
    pullCall k s = { s with
      ring := { s.ring with rcur := (pullCall k s).ring.rcur }, callback := (pullCall k s).callback } := by
  unfold pullCall
  split <;> rfl

/-- A turn of the Pull in progress writes the read cursor and the callback agent's own part. -/
theorem pullAdvance_frame :
    pullAdvance s = { s with
      ring := { s.ring with rcur := (pullAdvance s).ring.rcur }, callback := (pullAdvance s).callback } := by
  unfold pullAdvance
  split
  · rfl
  · split <;> rfl

end Sys2Proof.Machine
end

