-- ==== Sys2Proof/Laws/Safety.lean ====
section
/-! SUPPORT. The laws of the cursors as the callback agent may see them, and of the video unit's numbers. -/

namespace Sys2Proof.Machine

variable {r w : Nat} {u : List Replaced}

/-- The read cursor is at or below the write cursor as it is. -/
theorem Behind.le (h : Behind r u w) : r ≤ w := by
  induction u generalizing w with
  | nil => exact h
  | cons e u ih =>
    cases e with
    | slot k old => exact ih h
    | wcur old => exact le_trans (ih h.2) h.1

/-- The read cursor is at or below the write cursor as the callback agent sees it. -/
theorem Behind.le_before (h : Behind r u w) : r ≤ wcurBefore u w := by
  induction u generalizing w with
  | nil => exact h
  | cons e u ih =>
    cases e with
    | slot k old => exact ih h
    | wcur old => exact ih h.2

/-- A read cursor at or below the write cursor as the callback agent sees it is behind every value seen after. -/
theorem Behind.raise {r' : Nat} (h : Behind r u w) (hr : r' ≤ wcurBefore u w) : Behind r' u w := by
  induction u generalizing w with
  | nil => exact hr
  | cons e u ih =>
    cases e with
    | slot k old => exact ih h hr
    | wcur old => exact ⟨h.1, ih h.2 hr⟩

/-- What the agent has seen for good plays no part any more. -/
theorem Behind.take (h : Behind r u w) (n : Nat) : Behind r (u.take n) w := by
  induction u generalizing w n with
  | nil => simpa using h
  | cons e u ih =>
    cases n with
    | zero => exact h.le
    | succ n =>
      cases e with
      | slot k old => exact ih (w := w) h n
      | wcur old => exact ⟨h.1, ih h.2 n⟩

/-- The write cursor may move on. -/
theorem Behind.mono {w' : Nat} (h : Behind r u w) (hw : w ≤ w') : Behind r u w' := by
  induction u generalizing w w' with
  | nil => exact le_trans h hw
  | cons e u ih =>
    cases e with
    | slot k old => exact ih h hw
    | wcur old => exact ⟨le_trans h.1 hw, h.2⟩

/-- The seen write cursor is at or below the one there is. -/
theorem Behind.before_le (h : Behind r u w) : wcurBefore u w ≤ w := by
  induction u generalizing w with
  | nil => exact le_refl _
  | cons e u ih =>
    cases e with
    | slot k old => exact ih h
    | wcur old => exact le_trans (ih h.2) h.1

theorem stateOf_visible {n : Nat} : stateOf n = .visible ↔ n < 241 := by
  unfold stateOf vblankStartScanline vblankEndScanline; split_ifs <;> simp <;> omega

theorem stateOf_vblankActive {n : Nat} : stateOf n = .vblankActive ↔ 241 ≤ n ∧ n < 261 := by
  unfold stateOf vblankStartScanline vblankEndScanline; split_ifs <;> simp <;> omega

theorem stateOf_vblankDone {n : Nat} : stateOf n = .vblankDone ↔ 261 ≤ n := by
  unfold stateOf vblankStartScanline vblankEndScanline; split_ifs <;> simp <;> omega

/-- The samples due never fall as cycles are counted. -/
theorem samplesDue_mono (g : Config) {a b : Nat} (h : a ≤ b) : samplesDue g a ≤ samplesDue g b :=
  Nat.div_le_div_right (Nat.mul_le_mul_right _ h)

end Sys2Proof.Machine
end

