-- ==== Sys2Proof/Tests/Slice0.lean ====
section
/-! SUPPORT. Tests on fixed values, and a witness for the hypotheses of each statement.

The expected results are not the model's: they are the listing of spec/30_encoding.md R125 and the vectors of
spec/95_test_vectors.md, cited at each test. -/

namespace Sys2Proof.Tests

open Sys2Proof.Machine Sys2Proof.Claims

/-! ## Well-formedness: the one check -/

/-- 0xA9 has a descriptor, so `unknown 0xA9` is no instruction (30_encoding.md R120). -/
theorem test_wf_refuses_unknown_of_a_known_opcode : (Instr.unknown 0xA9).wf = false := by decide

theorem test_wf_accepts_listed_bytes : (Instr.unknown 0x02).wf = true ∧ (Instr.unknown 0xFF).wf = true := by decide

/-! ## Decoding: every row of 30_encoding.md R125, its operand bytes 0x34 and 0x12, bit 0 the low bit of the opcode byte -/

theorem test_decode_ADC :
    decodeTableWord 16 0x3461 = some (.adcIndX 0x34) ∧
    decodeTableWord 16 0x3465 = some (.adcZp 0x34) ∧
    decodeTableWord 16 0x3469 = some (.adcImm 0x34) ∧
    decodeTableWord 24 0x12346D = some (.adcAbs 0x1234) ∧
    decodeTableWord 16 0x3471 = some (.adcIndY 0x34) ∧
    decodeTableWord 16 0x3475 = some (.adcZpX 0x34) ∧
    decodeTableWord 24 0x123479 = some (.adcAbsY 0x1234) ∧
    decodeTableWord 24 0x12347D = some (.adcAbsX 0x1234) := by decide

theorem test_decode_AND :
    decodeTableWord 16 0x3421 = some (.andIndX 0x34) ∧
    decodeTableWord 16 0x3425 = some (.andZp 0x34) ∧
    decodeTableWord 16 0x3429 = some (.andImm 0x34) ∧
    decodeTableWord 24 0x12342D = some (.andAbs 0x1234) ∧
    decodeTableWord 16 0x3431 = some (.andIndY 0x34) ∧
    decodeTableWord 16 0x3435 = some (.andZpX 0x34) ∧
    decodeTableWord 24 0x123439 = some (.andAbsY 0x1234) ∧
    decodeTableWord 24 0x12343D = some (.andAbsX 0x1234) := by decide

theorem test_decode_ASL :
    decodeTableWord 16 0x3406 = some (.aslZp 0x34) ∧
    decodeTableWord 8 0x0A = some .aslAcc ∧
    decodeTableWord 24 0x12340E = some (.aslAbs 0x1234) ∧
    decodeTableWord 16 0x3416 = some (.aslZpX 0x34) ∧
    decodeTableWord 24 0x12341E = some (.aslAbsX 0x1234) := by decide

theorem test_decode_BCC :
    decodeTableWord 16 0x3490 = some (.bcc 0x34) := by decide

theorem test_decode_BCS :
    decodeTableWord 16 0x34B0 = some (.bcs 0x34) := by decide

theorem test_decode_BEQ :
    decodeTableWord 16 0x34F0 = some (.beq 0x34) := by decide

theorem test_decode_BIT :
    decodeTableWord 16 0x3424 = some (.bitZp 0x34) ∧
    decodeTableWord 24 0x12342C = some (.bitAbs 0x1234) := by decide

theorem test_decode_BMI :
    decodeTableWord 16 0x3430 = some (.bmi 0x34) := by decide

theorem test_decode_BNE :
    decodeTableWord 16 0x34D0 = some (.bne 0x34) := by decide

theorem test_decode_BPL :
    decodeTableWord 16 0x3410 = some (.bpl 0x34) := by decide

theorem test_decode_BRK :
    decodeTableWord 8 0x00 = some .brk := by decide

theorem test_decode_BVC :
    decodeTableWord 16 0x3450 = some (.bvc 0x34) := by decide

theorem test_decode_BVS :
    decodeTableWord 16 0x3470 = some (.bvs 0x34) := by decide

theorem test_decode_CLC :
    decodeTableWord 8 0x18 = some .clc := by decide

theorem test_decode_CLD :
    decodeTableWord 8 0xD8 = some .cld := by decide

theorem test_decode_CLI :
    decodeTableWord 8 0x58 = some .cli := by decide

theorem test_decode_CLV :
    decodeTableWord 8 0xB8 = some .clv := by decide

theorem test_decode_CMP :
    decodeTableWord 16 0x34C1 = some (.cmpIndX 0x34) ∧
    decodeTableWord 16 0x34C5 = some (.cmpZp 0x34) ∧
    decodeTableWord 16 0x34C9 = some (.cmpImm 0x34) ∧
    decodeTableWord 24 0x1234CD = some (.cmpAbs 0x1234) ∧
    decodeTableWord 16 0x34D1 = some (.cmpIndY 0x34) ∧
    decodeTableWord 16 0x34D5 = some (.cmpZpX 0x34) ∧
    decodeTableWord 24 0x1234D9 = some (.cmpAbsY 0x1234) ∧
    decodeTableWord 24 0x1234DD = some (.cmpAbsX 0x1234) := by decide

theorem test_decode_CPX :
    decodeTableWord 16 0x34E0 = some (.cpxImm 0x34) ∧
    decodeTableWord 16 0x34E4 = some (.cpxZp 0x34) ∧
    decodeTableWord 24 0x1234EC = some (.cpxAbs 0x1234) := by decide

theorem test_decode_CPY :
    decodeTableWord 16 0x34C0 = some (.cpyImm 0x34) ∧
    decodeTableWord 16 0x34C4 = some (.cpyZp 0x34) ∧
    decodeTableWord 24 0x1234CC = some (.cpyAbs 0x1234) := by decide

theorem test_decode_DEC :
    decodeTableWord 16 0x34C6 = some (.decZp 0x34) ∧
    decodeTableWord 24 0x1234CE = some (.decAbs 0x1234) ∧
    decodeTableWord 16 0x34D6 = some (.decZpX 0x34) ∧
    decodeTableWord 24 0x1234DE = some (.decAbsX 0x1234) := by decide

theorem test_decode_DEX :
    decodeTableWord 8 0xCA = some .dex := by decide

theorem test_decode_DEY :
    decodeTableWord 8 0x88 = some .dey := by decide

theorem test_decode_EOR :
    decodeTableWord 16 0x3441 = some (.eorIndX 0x34) ∧
    decodeTableWord 16 0x3445 = some (.eorZp 0x34) ∧
    decodeTableWord 16 0x3449 = some (.eorImm 0x34) ∧
    decodeTableWord 24 0x12344D = some (.eorAbs 0x1234) ∧
    decodeTableWord 16 0x3451 = some (.eorIndY 0x34) ∧
    decodeTableWord 16 0x3455 = some (.eorZpX 0x34) ∧
    decodeTableWord 24 0x123459 = some (.eorAbsY 0x1234) ∧
    decodeTableWord 24 0x12345D = some (.eorAbsX 0x1234) := by decide

theorem test_decode_INC :
    decodeTableWord 16 0x34E6 = some (.incZp 0x34) ∧
    decodeTableWord 24 0x1234EE = some (.incAbs 0x1234) ∧
    decodeTableWord 16 0x34F6 = some (.incZpX 0x34) ∧
    decodeTableWord 24 0x1234FE = some (.incAbsX 0x1234) := by decide

theorem test_decode_INX :
    decodeTableWord 8 0xE8 = some .inx := by decide

theorem test_decode_INY :
    decodeTableWord 8 0xC8 = some .iny := by decide

theorem test_decode_JMP :
    decodeTableWord 24 0x12344C = some (.jmpAbs 0x1234) ∧
    decodeTableWord 24 0x12346C = some (.jmpInd 0x1234) := by decide

theorem test_decode_JSR :
    decodeTableWord 24 0x123420 = some (.jsr 0x1234) := by decide

theorem test_decode_LDA :
    decodeTableWord 16 0x34A1 = some (.ldaIndX 0x34) ∧
    decodeTableWord 16 0x34A5 = some (.ldaZp 0x34) ∧
    decodeTableWord 16 0x34A9 = some (.ldaImm 0x34) ∧
    decodeTableWord 24 0x1234AD = some (.ldaAbs 0x1234) ∧
    decodeTableWord 16 0x34B1 = some (.ldaIndY 0x34) ∧
    decodeTableWord 16 0x34B5 = some (.ldaZpX 0x34) ∧
    decodeTableWord 24 0x1234B9 = some (.ldaAbsY 0x1234) ∧
    decodeTableWord 24 0x1234BD = some (.ldaAbsX 0x1234) := by decide

theorem test_decode_LDX :
    decodeTableWord 16 0x34A2 = some (.ldxImm 0x34) ∧
    decodeTableWord 16 0x34A6 = some (.ldxZp 0x34) ∧
    decodeTableWord 24 0x1234AE = some (.ldxAbs 0x1234) ∧
    decodeTableWord 16 0x34B6 = some (.ldxZpY 0x34) ∧
    decodeTableWord 24 0x1234BE = some (.ldxAbsY 0x1234) := by decide

theorem test_decode_LDY :
    decodeTableWord 16 0x34A0 = some (.ldyImm 0x34) ∧
    decodeTableWord 16 0x34A4 = some (.ldyZp 0x34) ∧
    decodeTableWord 24 0x1234AC = some (.ldyAbs 0x1234) ∧
    decodeTableWord 16 0x34B4 = some (.ldyZpX 0x34) ∧
    decodeTableWord 24 0x1234BC = some (.ldyAbsX 0x1234) := by decide

theorem test_decode_LSR :
    decodeTableWord 16 0x3446 = some (.lsrZp 0x34) ∧
    decodeTableWord 8 0x4A = some .lsrAcc ∧
    decodeTableWord 24 0x12344E = some (.lsrAbs 0x1234) ∧
    decodeTableWord 16 0x3456 = some (.lsrZpX 0x34) ∧
    decodeTableWord 24 0x12345E = some (.lsrAbsX 0x1234) := by decide

theorem test_decode_NOP :
    decodeTableWord 8 0xEA = some .nop := by decide

theorem test_decode_ORA :
    decodeTableWord 16 0x3401 = some (.oraIndX 0x34) ∧
    decodeTableWord 16 0x3405 = some (.oraZp 0x34) ∧
    decodeTableWord 16 0x3409 = some (.oraImm 0x34) ∧
    decodeTableWord 24 0x12340D = some (.oraAbs 0x1234) ∧
    decodeTableWord 16 0x3411 = some (.oraIndY 0x34) ∧
    decodeTableWord 16 0x3415 = some (.oraZpX 0x34) ∧
    decodeTableWord 24 0x123419 = some (.oraAbsY 0x1234) ∧
    decodeTableWord 24 0x12341D = some (.oraAbsX 0x1234) := by decide

theorem test_decode_PHA :
    decodeTableWord 8 0x48 = some .pha := by decide

theorem test_decode_PHP :
    decodeTableWord 8 0x08 = some .php := by decide

theorem test_decode_PLA :
    decodeTableWord 8 0x68 = some .pla := by decide

theorem test_decode_PLP :
    decodeTableWord 8 0x28 = some .plp := by decide

theorem test_decode_ROL :
    decodeTableWord 16 0x3426 = some (.rolZp 0x34) ∧
    decodeTableWord 8 0x2A = some .rolAcc ∧
    decodeTableWord 24 0x12342E = some (.rolAbs 0x1234) ∧
    decodeTableWord 16 0x3436 = some (.rolZpX 0x34) ∧
    decodeTableWord 24 0x12343E = some (.rolAbsX 0x1234) := by decide

theorem test_decode_ROR :
    decodeTableWord 16 0x3466 = some (.rorZp 0x34) ∧
    decodeTableWord 8 0x6A = some .rorAcc ∧
    decodeTableWord 24 0x12346E = some (.rorAbs 0x1234) ∧
    decodeTableWord 16 0x3476 = some (.rorZpX 0x34) ∧
    decodeTableWord 24 0x12347E = some (.rorAbsX 0x1234) := by decide

theorem test_decode_RTI :
    decodeTableWord 8 0x40 = some .rti := by decide

theorem test_decode_RTS :
    decodeTableWord 8 0x60 = some .rts := by decide

theorem test_decode_SBC :
    decodeTableWord 16 0x34E1 = some (.sbcIndX 0x34) ∧
    decodeTableWord 16 0x34E5 = some (.sbcZp 0x34) ∧
    decodeTableWord 16 0x34E9 = some (.sbcImm 0x34) ∧
    decodeTableWord 24 0x1234ED = some (.sbcAbs 0x1234) ∧
    decodeTableWord 16 0x34F1 = some (.sbcIndY 0x34) ∧
    decodeTableWord 16 0x34F5 = some (.sbcZpX 0x34) ∧
    decodeTableWord 24 0x1234F9 = some (.sbcAbsY 0x1234) ∧
    decodeTableWord 24 0x1234FD = some (.sbcAbsX 0x1234) := by decide

theorem test_decode_SEC :
    decodeTableWord 8 0x38 = some .sec := by decide

theorem test_decode_SED :
    decodeTableWord 8 0xF8 = some .sed := by decide

theorem test_decode_SEI :
    decodeTableWord 8 0x78 = some .sei := by decide

theorem test_decode_STA :
    decodeTableWord 16 0x3481 = some (.staIndX 0x34) ∧
    decodeTableWord 16 0x3485 = some (.staZp 0x34) ∧
    decodeTableWord 24 0x12348D = some (.staAbs 0x1234) ∧
    decodeTableWord 16 0x3491 = some (.staIndY 0x34) ∧
    decodeTableWord 16 0x3495 = some (.staZpX 0x34) ∧
    decodeTableWord 24 0x123499 = some (.staAbsY 0x1234) ∧
    decodeTableWord 24 0x12349D = some (.staAbsX 0x1234) := by decide

theorem test_decode_STX :
    decodeTableWord 16 0x3486 = some (.stxZp 0x34) ∧
    decodeTableWord 24 0x12348E = some (.stxAbs 0x1234) ∧
    decodeTableWord 16 0x3496 = some (.stxZpY 0x34) := by decide

theorem test_decode_STY :
    decodeTableWord 16 0x3484 = some (.styZp 0x34) ∧
    decodeTableWord 24 0x12348C = some (.styAbs 0x1234) ∧
    decodeTableWord 16 0x3494 = some (.styZpX 0x34) := by decide

theorem test_decode_TAX :
    decodeTableWord 8 0xAA = some .tax := by decide

theorem test_decode_TAY :
    decodeTableWord 8 0xA8 = some .tay := by decide

theorem test_decode_TSX :
    decodeTableWord 8 0xBA = some .tsx := by decide

theorem test_decode_TXA :
    decodeTableWord 8 0x8A = some .txa := by decide

theorem test_decode_TXS :
    decodeTableWord 8 0x9A = some .txs := by decide

theorem test_decode_TYA :
    decodeTableWord 8 0x98 = some .tya := by decide

theorem test_decode_UNKNOWN :
    decodeTableWord 8 0x02 = some (.unknown 0x02) ∧ decodeTableWord 8 0x89 = some (.unknown 0x89) ∧
    decodeTableWord 8 0xFF = some (.unknown 0xFF) := by decide

/-- A run of bytes that ends before the operand does is refused by name. -/
theorem test_decode_refuses_cut_runs :
    decode [] = .error .noOpcodeByte ∧ decode [0xA9] = .error .operandCutShort ∧
    decode [0xAD, 0x34] = .error .operandCutShort := ⟨rfl, rfl, rfl⟩

/-! ## One instruction: vectors of 95_test_vectors.md, sections 3 to 8

`start` is the default start state of section 0 but for what it names; `ends` says that one CPU step from `s` leaves exactly the given
registers, the given bytes written, the given count, and everything else as it was. -/

/-- The flags from their letters N V D I Z C as 0 and 1. -/
def P (n v d i z c : Nat) : Flags := ⟨n == 1, v == 1, d == 1, i == 1, z == 1, c == 1⟩

/-- A bus with these bytes written. -/
def bytes (m : Memory) : List (Word × Byte) → Memory
  | [] => m
  | (a, v) :: l => bytes (m.write a v) l

def start (cpu : Cpu) (m : List (Word × Byte)) : State := { State.launch {} [] with cpu := cpu, bus := bytes [] m }

def ends (s : State) (cpu : Cpu) (written : List (Word × Byte)) (cycles : Nat) : Bool :=
  match exec (fetch s) s with
  | .next t => decide (t = { s with cpu := cpu, bus := bytes s.bus written, cycles := cycles })
  | _ => false

/-- R171: LDA #$00. -/
theorem test_LDA_1 : ends (start ⟨0x33, 0x00, 0x00, 0xFD, 0x8000, P 0 0 0 1 0 0⟩ [(0x8000, 0xA9), (0x8001, 0x00)])
    ⟨0x00, 0x00, 0x00, 0xFD, 0x8002, P 0 0 0 1 1 0⟩ [] 2 = true := by decide

/-- R171: LDA $10,X (zero-page wrap). -/
theorem test_LDA_4 : ends (start ⟨0x00, 0xF5, 0x00, 0xFD, 0x8000, P 0 0 0 1 0 0⟩ [(0x8000, 0xB5), (0x8001, 0x10), (0x0005, 0x42)])
    ⟨0x42, 0xF5, 0x00, 0xFD, 0x8002, P 0 0 0 1 0 0⟩ [] 4 = true := by decide

/-- R171: LDA $FFFF,Y (wraps to 0x0000). -/
theorem test_LDA_7 : ends (start ⟨0x00, 0x00, 0x01, 0xFD, 0x8000, P 0 0 0 1 0 0⟩ [(0x8000, 0xB9), (0x8001, 0xFF), (0x8002, 0xFF), (0x0000, 0x99)])
    ⟨0x99, 0x00, 0x01, 0xFD, 0x8003, P 1 0 0 1 0 0⟩ [] 5 = true := by decide

/-- R171: LDA ($FE,X) (pointer at 0x00FF/0x0000). -/
theorem test_LDA_8 : ends (start ⟨0x00, 0x01, 0x00, 0xFD, 0x8000, P 0 0 0 1 0 0⟩ [(0x8000, 0xA1), (0x8001, 0xFE), (0x0000, 0x12), (0x00FF, 0x34), (0x1234, 0x56)])
    ⟨0x56, 0x01, 0x00, 0xFD, 0x8002, P 0 0 0 1 0 0⟩ [] 6 = true := by decide

/-- R171: LDA ($FF),Y (pointer wrap, page cross). -/
theorem test_LDA_9 : ends (start ⟨0x00, 0x00, 0x01, 0xFD, 0x8000, P 0 0 0 1 0 0⟩ [(0x8000, 0xB1), (0x8001, 0xFF), (0x0000, 0x20), (0x00FF, 0xFF), (0x2100, 0x80)])
    ⟨0x80, 0x00, 0x01, 0xFD, 0x8002, P 1 0 0 1 0 0⟩ [] 6 = true := by decide

/-- R172: LDX $10,Y (zero-page wrap). -/
theorem test_LDX_1 : ends (start ⟨0x00, 0x00, 0xF1, 0xFD, 0x8000, P 0 0 0 1 0 0⟩ [(0x8000, 0xB6), (0x8001, 0x10), (0x0001, 0xFE)])
    ⟨0x00, 0xFE, 0xF1, 0xFD, 0x8002, P 1 0 0 1 0 0⟩ [] 4 = true := by decide

/-- R173: LDY $12FF,X (page cross). -/
theorem test_LDY_1 : ends (start ⟨0x00, 0x01, 0x00, 0xFD, 0x8000, P 0 0 0 1 0 0⟩ [(0x8000, 0xBC), (0x8001, 0xFF), (0x8002, 0x12), (0x1300, 0x00)])
    ⟨0x00, 0x01, 0x00, 0xFD, 0x8003, P 0 0 0 1 1 0⟩ [] 5 = true := by decide

/-- R174: STA $12F0,X (page cross, fixed cost). -/
theorem test_STA_1 : ends (start ⟨0x80, 0x10, 0x00, 0xFD, 0x8000, P 0 0 0 1 1 0⟩ [(0x8000, 0x9D), (0x8001, 0xF0), (0x8002, 0x12)])
    ⟨0x80, 0x10, 0x00, 0xFD, 0x8003, P 0 0 0 1 1 0⟩ [(0x1300, 0x80)] 5 = true := by decide

/-- R174: STA ($20),Y (fixed cost). -/
theorem test_STA_2 : ends (start ⟨0x00, 0x00, 0xFF, 0xFD, 0x8000, P 1 0 0 1 0 0⟩ [(0x8000, 0x91), (0x8001, 0x20), (0x0020, 0x01), (0x0021, 0x02)])
    ⟨0x00, 0x00, 0xFF, 0xFD, 0x8002, P 1 0 0 1 0 0⟩ [] 6 = true := by decide

/-- R175: STX $10,Y. -/
theorem test_STX_1 : ends (start ⟨0x00, 0x00, 0x05, 0xFD, 0x8000, P 1 0 0 1 0 0⟩ [(0x8000, 0x96), (0x8001, 0x10)])
    ⟨0x00, 0x00, 0x05, 0xFD, 0x8002, P 1 0 0 1 0 0⟩ [] 4 = true := by decide

/-- R176: STY $0300. -/
theorem test_STY_1 : ends (start ⟨0x00, 0x00, 0x9A, 0xFD, 0x8000, P 0 0 0 1 0 0⟩ [(0x8000, 0x8C), (0x8001, 0x00), (0x8002, 0x03)])
    ⟨0x00, 0x00, 0x9A, 0xFD, 0x8003, P 0 0 0 1 0 0⟩ [(0x0300, 0x9A)] 4 = true := by decide

/-- R177: TAX. -/
theorem test_TAX_1 : ends (start ⟨0x00, 0x55, 0x00, 0xFD, 0x8000, P 0 0 0 1 0 0⟩ [(0x8000, 0xAA)])
    ⟨0x00, 0x00, 0x00, 0xFD, 0x8001, P 0 0 0 1 1 0⟩ [] 2 = true := by decide

/-- R178: TAY. -/
theorem test_TAY_1 : ends (start ⟨0xC0, 0x00, 0x00, 0xFD, 0x8000, P 0 0 0 1 0 0⟩ [(0x8000, 0xA8)])
    ⟨0xC0, 0x00, 0xC0, 0xFD, 0x8001, P 1 0 0 1 0 0⟩ [] 2 = true := by decide

/-- R179: TXA. -/
theorem test_TXA_1 : ends (start ⟨0x80, 0x01, 0x00, 0xFD, 0x8000, P 1 0 0 1 0 0⟩ [(0x8000, 0x8A)])
    ⟨0x01, 0x01, 0x00, 0xFD, 0x8001, P 0 0 0 1 0 0⟩ [] 2 = true := by decide

/-- R180: TYA. -/
theorem test_TYA_1 : ends (start ⟨0x01, 0x00, 0x00, 0xFD, 0x8000, P 0 0 0 1 0 0⟩ [(0x8000, 0x98)])
    ⟨0x00, 0x00, 0x00, 0xFD, 0x8001, P 0 0 0 1 1 0⟩ [] 2 = true := by decide

/-- R181: TSX. -/
theorem test_TSX_1 : ends (start ⟨0x00, 0x00, 0x00, 0xFD, 0x8000, P 0 0 0 1 0 0⟩ [(0x8000, 0xBA)])
    ⟨0x00, 0xFD, 0x00, 0xFD, 0x8001, P 1 0 0 1 0 0⟩ [] 2 = true := by decide

/-- R182: TXS (flags unchanged). -/
theorem test_TXS_1 : ends (start ⟨0x00, 0x00, 0x00, 0xFD, 0x8000, P 1 0 0 1 0 0⟩ [(0x8000, 0x9A)])
    ⟨0x00, 0x00, 0x00, 0x00, 0x8001, P 1 0 0 1 0 0⟩ [] 2 = true := by decide

/-- R201: ADC #$50 (signed overflow). -/
theorem test_ADC_1 : ends (start ⟨0x50, 0x00, 0x00, 0xFD, 0x8000, P 0 0 0 1 0 0⟩ [(0x8000, 0x69), (0x8001, 0x50)])
    ⟨0xA0, 0x00, 0x00, 0xFD, 0x8002, P 1 1 0 1 0 0⟩ [] 2 = true := by decide

/-- R201: ADC #$80 (negative overflow). -/
theorem test_ADC_4 : ends (start ⟨0x80, 0x00, 0x00, 0xFD, 0x8000, P 0 0 0 1 0 0⟩ [(0x8000, 0x69), (0x8001, 0x80)])
    ⟨0x00, 0x00, 0x00, 0xFD, 0x8002, P 0 1 0 1 1 1⟩ [] 2 = true := by decide

/-- R202: SBC #$B0 (signed overflow). -/
theorem test_SBC_2 : ends (start ⟨0x50, 0x00, 0x00, 0xFD, 0x8000, P 0 0 0 1 0 1⟩ [(0x8000, 0xE9), (0x8001, 0xB0)])
    ⟨0xA0, 0x00, 0x00, 0xFD, 0x8002, P 1 1 0 1 0 0⟩ [] 2 = true := by decide

/-- R202: SBC #$00 with C=0 (borrow in). -/
theorem test_SBC_4 : ends (start ⟨0x00, 0x00, 0x00, 0xFD, 0x8000, P 0 0 0 1 0 0⟩ [(0x8000, 0xE9), (0x8001, 0x00)])
    ⟨0xFF, 0x00, 0x00, 0xFD, 0x8002, P 1 0 0 1 0 0⟩ [] 2 = true := by decide

/-- R203: AND #$0F. -/
theorem test_AND_1 : ends (start ⟨0xF0, 0x00, 0x00, 0xFD, 0x8000, P 0 0 0 1 0 0⟩ [(0x8000, 0x29), (0x8001, 0x0F)])
    ⟨0x00, 0x00, 0x00, 0xFD, 0x8002, P 0 0 0 1 1 0⟩ [] 2 = true := by decide

/-- R204: ORA #$80. -/
theorem test_ORA_1 : ends (start ⟨0x01, 0x00, 0x00, 0xFD, 0x8000, P 0 0 0 1 0 0⟩ [(0x8000, 0x09), (0x8001, 0x80)])
    ⟨0x81, 0x00, 0x00, 0xFD, 0x8002, P 1 0 0 1 0 0⟩ [] 2 = true := by decide

/-- R205: EOR #$FF. -/
theorem test_EOR_1 : ends (start ⟨0xFF, 0x00, 0x00, 0xFD, 0x8000, P 0 0 0 1 0 0⟩ [(0x8000, 0x49), (0x8001, 0xFF)])
    ⟨0x00, 0x00, 0x00, 0xFD, 0x8002, P 0 0 0 1 1 0⟩ [] 2 = true := by decide

/-- R207: CMP #$41 (less). -/
theorem test_CMP_2 : ends (start ⟨0x40, 0x00, 0x00, 0xFD, 0x8000, P 0 0 0 1 0 1⟩ [(0x8000, 0xC9), (0x8001, 0x41)])
    ⟨0x40, 0x00, 0x00, 0xFD, 0x8002, P 1 0 0 1 0 0⟩ [] 2 = true := by decide

/-- R207: CMP #$01 (greater, N from difference). -/
theorem test_CMP_3 : ends (start ⟨0xFF, 0x00, 0x00, 0xFD, 0x8000, P 0 0 0 1 0 0⟩ [(0x8000, 0xC9), (0x8001, 0x01)])
    ⟨0xFF, 0x00, 0x00, 0xFD, 0x8002, P 1 0 0 1 0 1⟩ [] 2 = true := by decide

/-- R208: CPX #$80. -/
theorem test_CPX_1 : ends (start ⟨0x00, 0x00, 0x00, 0xFD, 0x8000, P 0 0 0 1 0 0⟩ [(0x8000, 0xE0), (0x8001, 0x80)])
    ⟨0x00, 0x00, 0x00, 0xFD, 0x8002, P 1 0 0 1 0 0⟩ [] 2 = true := by decide

/-- R209: CPY $10. -/
theorem test_CPY_1 : ends (start ⟨0x00, 0x00, 0x10, 0xFD, 0x8000, P 0 0 0 1 0 0⟩ [(0x8000, 0xC4), (0x8001, 0x10), (0x0010, 0x0F)])
    ⟨0x00, 0x00, 0x10, 0xFD, 0x8002, P 0 0 0 1 0 1⟩ [] 3 = true := by decide

/-- R210: BIT $10 (N and Z both set). -/
theorem test_BIT_1 : ends (start ⟨0x3F, 0x00, 0x00, 0xFD, 0x8000, P 0 0 0 1 0 0⟩ [(0x8000, 0x24), (0x8001, 0x10), (0x0010, 0xC0)])
    ⟨0x3F, 0x00, 0x00, 0xFD, 0x8002, P 1 1 0 1 1 0⟩ [] 3 = true := by decide

/-- R210: BIT $1000 (Z clear, V clear). -/
theorem test_BIT_2 : ends (start ⟨0x01, 0x00, 0x00, 0xFD, 0x8000, P 0 1 0 1 0 0⟩ [(0x8000, 0x2C), (0x8001, 0x00), (0x8002, 0x10), (0x1000, 0x01)])
    ⟨0x01, 0x00, 0x00, 0xFD, 0x8003, P 0 0 0 1 0 0⟩ [] 4 = true := by decide

/-- R231: ASL A. -/
theorem test_ASL_1 : ends (start ⟨0x80, 0x00, 0x00, 0xFD, 0x8000, P 0 0 0 1 0 0⟩ [(0x8000, 0x0A)])
    ⟨0x00, 0x00, 0x00, 0xFD, 0x8001, P 0 0 0 1 1 1⟩ [] 2 = true := by decide

/-- R231: ASL $10. -/
theorem test_ASL_2 : ends (start ⟨0x00, 0x00, 0x00, 0xFD, 0x8000, P 0 0 0 1 0 0⟩ [(0x8000, 0x06), (0x8001, 0x10), (0x0010, 0x41)])
    ⟨0x00, 0x00, 0x00, 0xFD, 0x8002, P 1 0 0 1 0 0⟩ [(0x0010, 0x82)] 5 = true := by decide

/-- R232: LSR A. -/
theorem test_LSR_1 : ends (start ⟨0x01, 0x00, 0x00, 0xFD, 0x8000, P 0 0 0 1 0 0⟩ [(0x8000, 0x4A)])
    ⟨0x00, 0x00, 0x00, 0xFD, 0x8001, P 0 0 0 1 1 1⟩ [] 2 = true := by decide

/-- R232: LSR $12F0,X (page cross, fixed cost). -/
theorem test_LSR_2 : ends (start ⟨0x00, 0x10, 0x00, 0xFD, 0x8000, P 0 0 0 1 0 0⟩ [(0x8000, 0x5E), (0x8001, 0xF0), (0x8002, 0x12), (0x1300, 0x80)])
    ⟨0x00, 0x10, 0x00, 0xFD, 0x8003, P 0 0 0 1 0 0⟩ [(0x1300, 0x40)] 7 = true := by decide

/-- R233: ROL A with C=1. -/
theorem test_ROL_1 : ends (start ⟨0x80, 0x00, 0x00, 0xFD, 0x8000, P 0 0 0 1 0 1⟩ [(0x8000, 0x2A)])
    ⟨0x01, 0x00, 0x00, 0xFD, 0x8001, P 0 0 0 1 0 1⟩ [] 2 = true := by decide

/-- R234: ROR A with C=1. -/
theorem test_ROR_1 : ends (start ⟨0x00, 0x00, 0x00, 0xFD, 0x8000, P 0 0 0 1 0 1⟩ [(0x8000, 0x6A)])
    ⟨0x80, 0x00, 0x00, 0xFD, 0x8001, P 1 0 0 1 0 0⟩ [] 2 = true := by decide

/-- R234: ROR $10 with C=0. -/
theorem test_ROR_2 : ends (start ⟨0x00, 0x00, 0x00, 0xFD, 0x8000, P 0 0 0 1 0 0⟩ [(0x8000, 0x66), (0x8001, 0x10), (0x0010, 0x03)])
    ⟨0x00, 0x00, 0x00, 0xFD, 0x8002, P 0 0 0 1 0 1⟩ [(0x0010, 0x01)] 5 = true := by decide

/-- R235: INC $10 (wrap to 0). -/
theorem test_INC_1 : ends (start ⟨0x00, 0x00, 0x00, 0xFD, 0x8000, P 0 0 0 1 0 0⟩ [(0x8000, 0xE6), (0x8001, 0x10), (0x0010, 0xFF)])
    ⟨0x00, 0x00, 0x00, 0xFD, 0x8002, P 0 0 0 1 1 0⟩ [(0x0010, 0x00)] 5 = true := by decide

/-- R236: DEC $10 (wrap to FF). -/
theorem test_DEC_1 : ends (start ⟨0x00, 0x00, 0x00, 0xFD, 0x8000, P 0 0 0 1 0 0⟩ [(0x8000, 0xC6), (0x8001, 0x10), (0x0010, 0x00)])
    ⟨0x00, 0x00, 0x00, 0xFD, 0x8002, P 1 0 0 1 0 0⟩ [(0x0010, 0xFF)] 5 = true := by decide

/-- R235: INC $10,X. -/
theorem test_INC_2 : ends (start ⟨0x00, 0x01, 0x00, 0xFD, 0x8000, P 0 0 0 1 0 0⟩ [(0x8000, 0xF6), (0x8001, 0x10), (0x0011, 0x7F)])
    ⟨0x00, 0x01, 0x00, 0xFD, 0x8002, P 1 0 0 1 0 0⟩ [(0x0011, 0x80)] 6 = true := by decide

/-- R237: INX. -/
theorem test_INX_1 : ends (start ⟨0x00, 0xFF, 0x00, 0xFD, 0x8000, P 0 0 0 1 0 0⟩ [(0x8000, 0xE8)])
    ⟨0x00, 0x00, 0x00, 0xFD, 0x8001, P 0 0 0 1 1 0⟩ [] 2 = true := by decide

/-- R238: INY. -/
theorem test_INY_1 : ends (start ⟨0x00, 0x00, 0x7F, 0xFD, 0x8000, P 0 0 0 1 0 0⟩ [(0x8000, 0xC8)])
    ⟨0x00, 0x00, 0x80, 0xFD, 0x8001, P 1 0 0 1 0 0⟩ [] 2 = true := by decide

/-- R239: DEX. -/
theorem test_DEX_1 : ends (start ⟨0x00, 0x00, 0x00, 0xFD, 0x8000, P 0 0 0 1 0 0⟩ [(0x8000, 0xCA)])
    ⟨0x00, 0xFF, 0x00, 0xFD, 0x8001, P 1 0 0 1 0 0⟩ [] 2 = true := by decide

/-- R240: DEY. -/
theorem test_DEY_1 : ends (start ⟨0x00, 0x00, 0x01, 0xFD, 0x8000, P 0 0 0 1 0 0⟩ [(0x8000, 0x88)])
    ⟨0x00, 0x00, 0x00, 0xFD, 0x8001, P 0 0 0 1 1 0⟩ [] 2 = true := by decide

/-- R260: JMP $1234. -/
theorem test_JMP_1 : ends (start ⟨0x00, 0x00, 0x00, 0xFD, 0x8000, P 0 0 0 1 0 0⟩ [(0x8000, 0x4C), (0x8001, 0x34), (0x8002, 0x12)])
    ⟨0x00, 0x00, 0x00, 0xFD, 0x1234, P 0 0 0 1 0 0⟩ [] 3 = true := by decide

/-- R260: JMP ($10FF) (no NMOS page wrap). -/
theorem test_JMP_2 : ends (start ⟨0x00, 0x00, 0x00, 0xFD, 0x8000, P 0 0 0 1 0 0⟩ [(0x8000, 0x6C), (0x8001, 0xFF), (0x8002, 0x10), (0x1000, 0x56), (0x10FF, 0x34), (0x1100, 0x12)])
    ⟨0x00, 0x00, 0x00, 0xFD, 0x1234, P 0 0 0 1 0 0⟩ [] 5 = true := by decide

/-- R261: JSR $9000. -/
theorem test_JSR_1 : ends (start ⟨0x00, 0x00, 0x00, 0xFD, 0x8000, P 0 0 0 1 0 0⟩ [(0x8000, 0x20), (0x8001, 0x00), (0x8002, 0x90)])
    ⟨0x00, 0x00, 0x00, 0xFB, 0x9000, P 0 0 0 1 0 0⟩ [(0x01FC, 0x02), (0x01FD, 0x80)] 6 = true := by decide

/-- R262: RTS. -/
theorem test_RTS_1 : ends (start ⟨0x00, 0x00, 0x00, 0xFB, 0x8000, P 0 0 0 1 0 0⟩ [(0x8000, 0x60), (0x01FC, 0x02), (0x01FD, 0x80)])
    ⟨0x00, 0x00, 0x00, 0xFD, 0x8003, P 0 0 0 1 0 0⟩ [] 6 = true := by decide

/-- R263: RTI. -/
theorem test_RTI_1 : ends (start ⟨0x00, 0x00, 0x00, 0xFA, 0x8000, P 0 0 0 1 0 0⟩ [(0x8000, 0x40), (0x01FB, 0xC3), (0x01FC, 0x05), (0x01FD, 0x80)])
    ⟨0x00, 0x00, 0x00, 0xFD, 0x8005, P 1 1 0 0 1 1⟩ [] 6 = true := by decide

/-- R264: BRK. -/
theorem test_BRK_1 : ends (start ⟨0x00, 0x00, 0x00, 0xFD, 0x8000, P 0 0 0 0 0 1⟩ [(0x8000, 0x00), (0x8001, 0xEA), (0xFFFE, 0x00), (0xFFFF, 0x70)])
    ⟨0x00, 0x00, 0x00, 0xFA, 0x7000, P 0 0 0 1 0 1⟩ [(0x01FB, 0x31), (0x01FC, 0x02), (0x01FD, 0x80)] 7 = true := by decide

/-- R264: BRK at SP=0x01 (stack wrap). -/
theorem test_BRK_2 : ends (start ⟨0x00, 0x00, 0x00, 0x01, 0x8000, P 0 0 0 1 0 0⟩ [(0x8000, 0x00), (0x8001, 0xEA), (0xFFFE, 0x00), (0xFFFF, 0x70)])
    ⟨0x00, 0x00, 0x00, 0xFE, 0x7000, P 0 0 0 1 0 0⟩ [(0x0100, 0x02), (0x0101, 0x80), (0x01FF, 0x34)] 7 = true := by decide

/-- R268: BEQ +5, taken. -/
theorem test_BEQ_2 : ends (start ⟨0x00, 0x00, 0x00, 0xFD, 0x8000, P 0 0 0 1 1 0⟩ [(0x8000, 0xF0), (0x8001, 0x05)])
    ⟨0x00, 0x00, 0x00, 0xFD, 0x8007, P 0 0 0 1 1 0⟩ [] 3 = true := by decide

/-- R269: BNE +1, taken across a page. -/
theorem test_BNE_1 : ends (start ⟨0x00, 0x00, 0x00, 0xFD, 0x80FD, P 0 0 0 1 0 0⟩ [(0x80FD, 0xD0), (0x80FE, 0x01)])
    ⟨0x00, 0x00, 0x00, 0xFD, 0x8100, P 0 0 0 1 0 0⟩ [] 4 = true := by decide

/-- R270: BMI -128 (0x80), taken across a page. -/
theorem test_BMI_1 : ends (start ⟨0x00, 0x00, 0x00, 0xFD, 0x8010, P 1 0 0 1 0 0⟩ [(0x8010, 0x30), (0x8011, 0x80)])
    ⟨0x00, 0x00, 0x00, 0xFD, 0x7F92, P 1 0 0 1 0 0⟩ [] 4 = true := by decide

/-- R271: BPL +0, taken. -/
theorem test_BPL_1 : ends (start ⟨0x00, 0x00, 0x00, 0xFD, 0x8000, P 0 0 0 1 0 0⟩ [(0x8000, 0x10), (0x8001, 0x00)])
    ⟨0x00, 0x00, 0x00, 0xFD, 0x8002, P 0 0 0 1 0 0⟩ [] 3 = true := by decide

/-- R266: BCC +2, taken. -/
theorem test_BCC_1 : ends (start ⟨0x00, 0x00, 0x00, 0xFD, 0x8000, P 0 0 0 1 0 0⟩ [(0x8000, 0x90), (0x8001, 0x02)])
    ⟨0x00, 0x00, 0x00, 0xFD, 0x8004, P 0 0 0 1 0 0⟩ [] 3 = true := by decide

/-- R267: BCS +2, not taken. -/
theorem test_BCS_1 : ends (start ⟨0x00, 0x00, 0x00, 0xFD, 0x8000, P 0 0 0 1 0 0⟩ [(0x8000, 0xB0), (0x8001, 0x02)])
    ⟨0x00, 0x00, 0x00, 0xFD, 0x8002, P 0 0 0 1 0 0⟩ [] 2 = true := by decide

/-- R272: BVC +2, not taken. -/
theorem test_BVC_1 : ends (start ⟨0x00, 0x00, 0x00, 0xFD, 0x8000, P 0 1 0 1 0 0⟩ [(0x8000, 0x50), (0x8001, 0x02)])
    ⟨0x00, 0x00, 0x00, 0xFD, 0x8002, P 0 1 0 1 0 0⟩ [] 2 = true := by decide

/-- R273: BVS +2, taken. -/
theorem test_BVS_1 : ends (start ⟨0x00, 0x00, 0x00, 0xFD, 0x8000, P 0 1 0 1 0 0⟩ [(0x8000, 0x70), (0x8001, 0x02)])
    ⟨0x00, 0x00, 0x00, 0xFD, 0x8004, P 0 1 0 1 0 0⟩ [] 3 = true := by decide

/-- R146: NOP at 0xFFFF (pc wraps). -/
theorem test_NOP_2 : ends (start ⟨0x00, 0x00, 0x00, 0xFD, 0xFFFF, P 0 0 0 1 0 0⟩ [(0xFFFF, 0xEA)])
    ⟨0x00, 0x00, 0x00, 0xFD, 0x0000, P 0 0 0 1 0 0⟩ [] 2 = true := by decide

/-- R290: PHA. -/
theorem test_PHA_1 : ends (start ⟨0x5A, 0x00, 0x00, 0xFD, 0x8000, P 0 0 0 1 0 0⟩ [(0x8000, 0x48)])
    ⟨0x5A, 0x00, 0x00, 0xFC, 0x8001, P 0 0 0 1 0 0⟩ [(0x01FD, 0x5A)] 3 = true := by decide

/-- R290: PHA at SP=0x00 (wrap). -/
theorem test_PHA_2 : ends (start ⟨0x5A, 0x00, 0x00, 0x00, 0x8000, P 0 0 0 1 0 0⟩ [(0x8000, 0x48)])
    ⟨0x5A, 0x00, 0x00, 0xFF, 0x8001, P 0 0 0 1 0 0⟩ [(0x0100, 0x5A)] 3 = true := by decide

/-- R291: PHP. -/
theorem test_PHP_1 : ends (start ⟨0x00, 0x00, 0x00, 0xFD, 0x8000, P 1 0 0 1 0 1⟩ [(0x8000, 0x08)])
    ⟨0x00, 0x00, 0x00, 0xFC, 0x8001, P 1 0 0 1 0 1⟩ [(0x01FD, 0xB5)] 3 = true := by decide

/-- R292: PLA. -/
theorem test_PLA_1 : ends (start ⟨0x00, 0x00, 0x00, 0xFC, 0x8000, P 0 0 0 1 0 0⟩ [(0x8000, 0x68), (0x01FD, 0x00)])
    ⟨0x00, 0x00, 0x00, 0xFD, 0x8001, P 0 0 0 1 1 0⟩ [] 4 = true := by decide

/-- R292: PLA at SP=0xFF (wrap). -/
theorem test_PLA_2 : ends (start ⟨0x00, 0x00, 0x00, 0xFF, 0x8000, P 0 0 0 1 0 0⟩ [(0x8000, 0x68), (0x0100, 0x80)])
    ⟨0x80, 0x00, 0x00, 0x00, 0x8001, P 1 0 0 1 0 0⟩ [] 4 = true := by decide

/-- R293: PLP (bits 5 and 4 ignored). -/
theorem test_PLP_1 : ends (start ⟨0x00, 0x00, 0x00, 0xFC, 0x8000, P 0 0 0 1 0 0⟩ [(0x8000, 0x28), (0x01FD, 0x30)])
    ⟨0x00, 0x00, 0x00, 0xFD, 0x8001, P 0 0 0 0 0 0⟩ [] 4 = true := by decide

/-- R294: CLC. -/
theorem test_CLC_1 : ends (start ⟨0x00, 0x00, 0x00, 0xFD, 0x8000, P 0 0 0 1 0 1⟩ [(0x8000, 0x18)])
    ⟨0x00, 0x00, 0x00, 0xFD, 0x8001, P 0 0 0 1 0 0⟩ [] 2 = true := by decide

/-- R295: SEC. -/
theorem test_SEC_1 : ends (start ⟨0x00, 0x00, 0x00, 0xFD, 0x8000, P 0 0 0 1 0 0⟩ [(0x8000, 0x38)])
    ⟨0x00, 0x00, 0x00, 0xFD, 0x8001, P 0 0 0 1 0 1⟩ [] 2 = true := by decide

/-- R296: CLI. -/
theorem test_CLI_1 : ends (start ⟨0x00, 0x00, 0x00, 0xFD, 0x8000, P 0 0 0 1 0 0⟩ [(0x8000, 0x58)])
    ⟨0x00, 0x00, 0x00, 0xFD, 0x8001, P 0 0 0 0 0 0⟩ [] 2 = true := by decide

/-- R297: SEI. -/
theorem test_SEI_1 : ends (start ⟨0x00, 0x00, 0x00, 0xFD, 0x8000, P 0 0 0 0 0 0⟩ [(0x8000, 0x78)])
    ⟨0x00, 0x00, 0x00, 0xFD, 0x8001, P 0 0 0 1 0 0⟩ [] 2 = true := by decide

/-- R298: CLD. -/
theorem test_CLD_1 : ends (start ⟨0x00, 0x00, 0x00, 0xFD, 0x8000, P 0 0 1 1 0 0⟩ [(0x8000, 0xD8)])
    ⟨0x00, 0x00, 0x00, 0xFD, 0x8001, P 0 0 0 1 0 0⟩ [] 2 = true := by decide

/-- R299: SED. -/
theorem test_SED_1 : ends (start ⟨0x00, 0x00, 0x00, 0xFD, 0x8000, P 0 0 0 1 0 0⟩ [(0x8000, 0xF8)])
    ⟨0x00, 0x00, 0x00, 0xFD, 0x8001, P 0 0 1 1 0 0⟩ [] 2 = true := by decide

/-- R300: CLV. -/
theorem test_CLV_1 : ends (start ⟨0x00, 0x00, 0x00, 0xFD, 0x8000, P 0 1 0 1 0 0⟩ [(0x8000, 0xB8)])
    ⟨0x00, 0x00, 0x00, 0xFD, 0x8001, P 0 0 0 1 0 0⟩ [] 2 = true := by decide

/-- R144: unknown 0x02. -/
theorem test_unknown_opcode_1 : ends (start ⟨0x11, 0x00, 0x00, 0xFD, 0x8000, P 0 0 0 1 0 1⟩ [(0x8000, 0x02), (0x8001, 0xA9)])
    ⟨0x11, 0x00, 0x00, 0xFD, 0x8001, P 0 0 0 1 0 1⟩ [] 2 = true := by decide

/-! ## One turn: vectors of 95_test_vectors.md, sections 9 to 13 -/

/-- Section 9: `EA` at 0x8000, NOP at 0x9000 behind the IRQ/BRK vector, RTI at 0xA000 behind the NMI vector. -/
def interruptStart (p : Flags) (line nmi : Bool) : State :=
  { start ⟨0, 0, 0, 0xFD, 0x8000, p⟩
      [(0x8000, 0xEA), (0x9000, 0xEA), (0xA000, 0x40), (0xFFFF, 0x90), (0xFFFB, 0xA0)] with
    config := { irqLine := { rest := line } }, nmiRequest := nmi }

def after (s : State) (f : State → Bool) : Bool :=
  match step s with
  | .next t => f t
  | _ => false

/-- I1: the IRQ is taken, then the NOP of the handler runs; 7 + 2 cycles. -/
theorem test_irq_taken : after (interruptStart (P 0 0 0 0 0 0) true false) (fun t =>
    decide (t.cpu = ⟨0, 0, 0, 0xFA, 0x9001, P 0 0 0 1 0 0⟩) && t.read 0x01FD == 0x80 && t.read 0x01FC == 0x00 &&
      t.read 0x01FB == 0x20 && t.sched.totalCycles == 9) = true := by decide +kernel

/-- I2: with P.I = 1 there is no entry. -/
theorem test_irq_masked : after (interruptStart (P 0 0 0 1 0 0) true false) (fun t =>
    decide (t.cpu = ⟨0, 0, 0, 0xFD, 0x8001, P 0 0 0 1 0 0⟩) && t.sched.totalCycles == 2) = true := by decide +kernel

/-- I3: the NMI goes first, with no IRQ check; RTI at its handler brings the pc and P back. -/
theorem test_nmi_before_irq : after (interruptStart (P 0 0 0 0 0 1) true true) (fun t =>
    decide (t.cpu = ⟨0, 0, 0, 0xFD, 0x8000, P 0 0 0 0 0 1⟩) && t.read 0x01FB == 0x21 && t.nmiRequest == false &&
      t.sched.totalCycles == 13) = true := by decide +kernel

/-- E8: `LDA #$05` placed where reset fetches. -/
theorem test_with_fetch_word : after (State.reset.withFetchWord 16 0x05A9) (fun t =>
    t.cpu.a == 0x05 && t.cpu.pc == 0x0002 && t.sched.tickCount == 1) = true := by decide +kernel

/-- V1, V2: the PPU step from 82,180 starts VBlank; V7: only bit 7 of 0x2002 changes. -/
theorem test_vblank_starts :
    let t := ppuStep { start ⟨0, 0, 0, 0xFD, 0, P 0 0 0 1 0 0⟩ [(0x2002, 0x41)] with video := ⟨82180, 240, .visible, false⟩ }
    t.video = ⟨82181, 241, .vblankActive, true⟩ ∧ t.nmiRequest = true ∧ t.read 0x2002 = 0xC1 := by decide +kernel

/-- V3, V4: the PPU step from 89,000 ends it. -/
theorem test_vblank_ends :
    let t := ppuStep { start ⟨0, 0, 0, 0xFD, 0, P 0 0 0 1 0 0⟩ [(0x2002, 0xC1)] with video := ⟨89000, 260, .vblankActive, true⟩ }
    t.video = ⟨89001, 261, .vblankDone, false⟩ ∧ t.nmiRequest = false ∧ t.read 0x2002 = 0x41 := by decide +kernel

/-- V5, V6: the frame wraps. -/
theorem test_frame_wraps :
    (videoAdvance 1 { State.reset with video := ⟨89340, 261, .vblankDone, false⟩ }).video = ⟨1, 0, .visible, false⟩ := by
  decide +kernel

/-- A3: the mix of a pulse of period 7 and duty 2 with a triangle of period 15, at samples 0, 1, 2 and 7. -/
theorem test_synth_mix :
    let s := start ⟨0, 0, 0, 0xFD, 0, P 0 0 0 1 0 0⟩ [(0x4000, 0x80), (0x4002, 7), (0x400A, 15)]
    [0, 1, 2, 7].map (synth s) = [6000, 7200, 4000, 2400] := by decide +kernel

/-- A5: saturation, both ways, at sample 1. -/
theorem test_synth_saturates :
    let s := start ⟨0, 0, 0, 0xFD, 0, P 0 0 0 1 0 0⟩ [(0x4000, 0x80), (0x4002, 1), (0x4004, 0x80), (0x4006, 1)]
    (synth { s with config := { gainPulse := 20000 } } 1).toInt = 32767 ∧
    (synth { s with config := { gainPulse := -20000 } } 1).toInt = -32768 := by decide +kernel

/-- A6: sample 0 is made with cycle 41 and not before. -/
theorem test_first_sample_due :
    (audioAdvance 40 State.reset).audio.samplesMade = 0 ∧ (audioAdvance 41 State.reset).audio.samplesMade = 1 := by
  decide +kernel

/-- Section 12: a ring of four slots. -/
def ringStart : State := State.launch { ringCapacity := 4, batchSize := 1 } []

/-- The producer stages these samples and flushes. -/
def flushed (vs : List Sample) (s : State) : State := flush { s with audio := { s.audio with staging := vs } }

/-- A Pull with nothing between its turns. -/
def pulled (k n : Nat) (s : State) : State := Nat.repeat (fun s => pullAdvance (lookBack 0 s)) (n + 1) (pullCall k (lookBack 0 s))

/-- G1: produce 1, 2, 3, then `Pull(4)`. -/
theorem test_pull :
    let t := pulled 4 2 (flushed [1, 2, 3] ringStart)
    t.ring = ⟨[(0, 1), (1, 2), (2, 3)], 3, 2⟩ ∧ t.callback.returned = [1, 0, 2, 0] := by decide +kernel

/-- G3: `Pull(3)` with nothing unread is silence and the pad byte. -/
theorem test_pull_underrun :
    let t := pulled 3 0 { ringStart with ring := ⟨[(0, 5), (1, 2), (2, 3), (3, 4)], 5, 5⟩ }
    t.ring.rcur = 5 ∧ t.callback.returned = [0, 0, 0] := by decide +kernel

/-- G4: six unread of a capacity of four, then `Pull(10)`. -/
theorem test_pull_overrun :
    let t := pulled 10 4 (flushed [6, 7, 8, 9, 10, 11] { ringStart with ring := ⟨[(0, 5), (1, 2), (2, 3), (3, 4)], 5, 5⟩ })
    t.ring = ⟨[(0, 9), (1, 10), (2, 11), (3, 8)], 11, 11⟩ ∧
    t.callback.returned = [8, 0, 9, 0, 10, 0, 11, 0, 0, 0] := by decide +kernel

/-- G5: signed samples, with the slots R383 gives (notes/assumptions/21.md), then `Pull(4)`. -/
theorem test_pull_signed :
    let t := pulled 4 2 (flushed [-1, -32768] { ringStart with ring := ⟨[(0, 9), (1, 10), (2, 11), (3, 8)], 11, 11⟩ })
    t.ring = ⟨[(0, -32768), (1, 10), (2, 11), (3, -1)], 13, 13⟩ ∧ t.callback.returned = [0xFF, 0xFF, 0, 0x80] := by
  decide +kernel

/-- L2, L3, L5: a bad signature, a short file and a bank count of 0 fail. -/
theorem test_load_fails :
    loadImage (0x4E :: 0x45 :: 0x5A :: 0x1A :: 1 :: List.replicate 11 0) [] = none ∧
    loadImage (0x4E :: 0x45 :: 0x53 :: 0x1A :: 1 :: List.replicate 10 0) [] = none ∧
    loadImage (0x4E :: 0x45 :: 0x53 :: 0x1A :: 0 :: List.replicate 11 0) [] = none := by decide +kernel

/-! ## Witnesses: for each statement with hypotheses, states and operands that meet them all; for each clause, one at an edge -/

def anyFlags : Flags := P 0 0 0 0 0 0

/-- A state about to run, its pc at 0x8000, with these bytes on the bus. -/
def at8000 (m : List (Word × Byte)) : State := start ⟨0x80, 0x01, 0xFF, 0x00, 0x8000, anyFlags⟩ m

theorem witness_DecodeOfEncodeIsTheInstruction :
    (Instr.adcAbs 0xFFFF).wf = true ∧ (Instr.brk).wf = true ∧ (Instr.unknown 0xFF).wf = true := by decide

/-- An empty agenda with P.I = 1 and the line true; an agenda that begins with the emulation agent's turn, with P.I = 0 and the line
false. -/
theorem witness_StepRunsTheDecodedInstruction :
    (∃ (s t : State) (i : Instr) (rest : List Byte), s.agenda = [] ∧ s.nmiRequest = false ∧ s.cpu.p.i = true ∧
      irqLevel s = true ∧ decode (bytesAtPc s) = .ok (i, rest) ∧
      exec i (lookBack 0 { s with agenda := s.agenda.tail }) = .next t) ∧
    (∃ (s t : State) (i : Instr) (rest : List Byte), (∃ more, s.agenda = .emulation :: more) ∧ s.nmiRequest = false ∧
      irqLevel s = false ∧ decode (bytesAtPc s) = .ok (i, rest) ∧
      exec i (lookBack 0 { s with agenda := s.agenda.tail }) = .next t) :=
  ⟨⟨interruptStart (P 0 0 0 1 0 0) true false, _, .nop, _, rfl, rfl, rfl, rfl, rfl, rfl⟩,
   ⟨{ at8000 [(0x8000, 0xA9), (0x8001, 0x05)] with agenda := [.emulation, .call 4 0] }, _, .ldaImm 0x05, _, ⟨_, rfl⟩, rfl, rfl,
     rfl, rfl⟩⟩

/-- Each of the three branches: an NMI and an accepted IRQ together, an accepted IRQ alone, neither. -/
theorem witness_TickTakesOneInterruptThenOneInstruction :
    (∃ s : State, s.agenda = [] ∧ s.nmiRequest = true ∧ irqLevel s = true ∧ s.cpu.p.i = false) ∧
    (∃ s : State, s.agenda = [] ∧ s.nmiRequest = false ∧ irqLevel s = true ∧ s.cpu.p.i = false) ∧
    (∃ s : State, s.agenda = [] ∧ s.nmiRequest = false ∧ irqLevel s = true ∧ s.cpu.p.i = true) :=
  ⟨⟨interruptStart (P 0 0 0 0 0 0) true true, by decide⟩, ⟨interruptStart (P 0 0 0 0 0 0) true false, by decide⟩,
   ⟨interruptStart (P 0 0 0 1 0 0) true false, by decide⟩⟩

/-- A step that answers a next state, found by running it. -/
theorem next_of_after {s : State} (h : after s (fun _ => true) = true) : ∃ t, step s = .next t := by
  unfold after at h
  split at h
  · exact ⟨_, ‹_›⟩
  · cases h

/-- The same of a tick. -/
theorem tick_next {s : State} (ha : s.agenda = []) (h : after s (fun _ => true) = true) : ∃ t, tick s = .next t := by
  obtain ⟨t, ht⟩ := next_of_after h
  rw [step, ha] at ht
  exact ⟨t, ht⟩

/-- With the smallest `UNKNOWN_OPCODE_CYCLES`, on an unknown opcode, and with an interrupt entry. -/
theorem witness_EveryTickCountsAndAdvancesTime :
    (∃ s t : State, s.config.wf = true ∧ s.config.unknownOpcodeCycles = 1 ∧ s.read s.cpu.pc = 0x02 ∧ tick s = .next t) ∧
    (∃ s t : State, s.config.wf = true ∧ s.nmiRequest = true ∧ tick s = .next t) := by
  obtain ⟨t, ht⟩ := tick_next (s := { at8000 [(0x8000, 0x02)] with config := { unknownOpcodeCycles := 1 } }) rfl
    (by decide +kernel)
  obtain ⟨u, hu⟩ := tick_next (s := interruptStart (P 0 0 0 0 0 0) true true) rfl (by decide +kernel)
  exact ⟨⟨_, t, by decide, rfl, by decide, ht⟩, ⟨_, u, by decide, rfl, hu⟩⟩

/-- Both clauses: a known opcode, and an unknown one with the smallest `UNKNOWN_OPCODE_CYCLES`. -/
theorem witness_EveryInstructionCompletesInBoundedCycles :
    (at8000 []).config.wf = true ∧ (Instr.brk).row.mnemonic ≠ .UNKNOWN ∧
    ({ unknownOpcodeCycles := 1 } : Config).wf = true ∧ (Instr.unknown 0x02).row.mnemonic = .UNKNOWN := by decide

/-- With SP = 0x00, so that the push wraps. -/
theorem witness_RtsGoesToPulledAddressPlusOne :
    ∃ (s t u : State) (w : Word), s.bus.wf = true ∧ s.cpu.sp = 0 ∧ exec (.jsr w) s = .next t ∧ exec .rts t = .next u :=
  ⟨at8000 [], _, _, 0x9000, by decide, rfl, rfl, rfl⟩

/-- With SP = 0x00, so that the pushes wrap. -/
theorem witness_BrkEntersThroughIrqVector :
    ∃ s t u : State, s.bus.wf = true ∧ s.cpu.sp = 0 ∧ exec .brk s = .next t ∧ exec .rti t = .next u :=
  ⟨at8000 [(0xFFFF, 0x70), (0x0100, 1)], _, _, by decide, rfl, rfl, rfl⟩

theorem witness_PullAfterPushGivesTheByteBack :
    (at8000 []).bus.wf = true ∧ (0x0101 : Word) ≠ inStackPage (at8000 []).cpu.sp := by decide

/-- STA at 0xFFFD over the next opcode byte at 0x0000, and over the next operand byte; INC elsewhere; PHA at 0x0110 over the next opcode
byte. The last clause's premise is met by the first. -/
theorem witness_StoreIsSeenByTheNextFetch :
    let s := start ⟨0xE8, 0, 0, 0xFD, 0xFFFD, anyFlags⟩ []
    let u := start ⟨0xE8, 0, 0, 0x11, 0x0110, anyFlags⟩ []
    s.bus.wf = true ∧ u.bus.wf = true ∧
    ⟨.staAbs 0x0000, [(0x0000, 0xE8)], 0x0000⟩ ∈ everyStoring s 0 0x0000 ∧
    ⟨.staAbs 0x0001, [(0x0001, 0xE8)], 0x0000⟩ ∈ everyStoring s 0 0x0001 ∧
    ⟨.incAbs 0x4000, [(0x4000, 1)], 0x0000⟩ ∈ everyStoring s 0 0x4000 ∧
    ⟨.pha, [(0x0111, 0xE8)], 0x0111⟩ ∈ everyStoring u 0 0 ∧
    ∀ k ∈ [(0 : Word), 1, 2], (0x0000 : Word) + k ≠ 0x2002 := by
  simp only [everyStoring, List.mem_append]
  refine ⟨rfl, rfl, ?_, ?_, ?_, ?_, by simp⟩
  · iterate 9 left
    exact List.mem_map.2 ⟨⟨.staAbs 0x0000, 0x8D, .absolute 0x0000, 3, 4, false⟩, .tail _ (.tail _ (.head _)), rfl⟩
  · iterate 9 left
    exact List.mem_map.2 ⟨⟨.staAbs 0x0001, 0x8D, .absolute 0x0001, 3, 4, false⟩, .tail _ (.tail _ (.head _)), rfl⟩
  · iterate 2 left
    right
    exact List.mem_map.2 ⟨⟨.incAbs 0x4000, 0xEE, .absolute 0x4000, 3, 6, false⟩, .tail _ (.head _), rfl⟩
  · exact .inr (.head _)

theorem witness_InterruptEntrySavesPcAndStatus : (at8000 [(0xFFFB, 0xA0)]).bus.wf = true := by decide

/-- After each entry a handler has counted in 0x0020 and loaded A: only SP and the three stack bytes are the entry's. -/
theorem witness_RtiUndoesInterruptEntry :
    let s := at8000 []
    let handled (e : State) : State := { e with cpu := { e.cpu with a := 7 }, bus := e.bus.write 0x0020 1 }
    s.bus.wf = true ∧
    (∃ e ∈ [nmiEntry s, irqEntry s], (handled (nmiEntry s)).cpu.sp = e.cpu.sp ∧ (handled (nmiEntry s)).bus ≠ e.bus ∧
      ∀ k ∈ [(0 : Byte), 1, 2],
        (handled (nmiEntry s)).read (inStackPage (s.cpu.sp - k)) = e.read (inStackPage (s.cpu.sp - k))) ∧
    (∃ e ∈ [nmiEntry s, irqEntry s], (handled (irqEntry s)).cpu.sp = e.cpu.sp ∧ (handled (irqEntry s)).bus ≠ e.bus ∧
      ∀ k ∈ [(0 : Byte), 1, 2],
        (handled (irqEntry s)).read (inStackPage (s.cpu.sp - k)) = e.read (inStackPage (s.cpu.sp - k))) := by
  decide +kernel

theorem witness_NoInstructionTouchesTheUnits : ∃ (i : Instr) (s t : State), exec i s = .next t :=
  ⟨.incAbs 0x4002, at8000 [], _, rfl⟩

/-- A change of each register, of A by a shift among them. -/
theorem witness_RegistersChangeOnlyByTheirWriters :
    (∃ t, exec .aslAcc (at8000 []) = .next t ∧ t.reg .A ≠ (at8000 []).reg .A) ∧
    (∃ t, exec .inx (at8000 []) = .next t ∧ t.reg .X ≠ (at8000 []).reg .X) ∧
    (∃ t, exec .tay (at8000 []) = .next t ∧ t.reg .Y ≠ (at8000 []).reg .Y) ∧
    (∃ t, exec .brk (at8000 []) = .next t ∧ t.reg .SP ≠ (at8000 []).reg .SP) :=
  ⟨⟨_, rfl, by decide⟩, ⟨_, rfl, by decide⟩, ⟨_, rfl, by decide⟩, ⟨_, rfl, by decide⟩⟩

/-- A change of each flag. -/
theorem witness_FlagsChangeOnlyByTheirWriters :
    (∃ t, exec .aslAcc (at8000 []) = .next t ∧ t.cpu.p.c ≠ (at8000 []).cpu.p.c ∧ t.cpu.p.z ≠ (at8000 []).cpu.p.z) ∧
    (∃ t, exec .tay (at8000 []) = .next t ∧ t.cpu.p.n ≠ (at8000 []).cpu.p.n) ∧
    (∃ t, exec (.adcImm 0x80) (at8000 []) = .next t ∧ t.cpu.p.v ≠ (at8000 []).cpu.p.v) ∧
    (∃ t, exec .brk (at8000 []) = .next t ∧ t.cpu.p.i ≠ (at8000 []).cpu.p.i) ∧
    (∃ t, exec .sed (at8000 []) = .next t ∧ t.cpu.p.d ≠ (at8000 []).cpu.p.d) :=
  ⟨⟨_, rfl, by decide⟩, ⟨_, rfl, by decide⟩, ⟨_, rfl, by decide⟩, ⟨_, rfl, by decide⟩, ⟨_, rfl, by decide⟩⟩

/-- Both clauses: a load, and a rotate of the accumulator. -/
theorem witness_FormsThatStoreNothingKeepEveryByte :
    (∃ t, exec (.ldaAbs 0xFFFF) (at8000 []) = .next t ∧ (Instr.ldaAbs 0xFFFF).row.mnemonic ∉ storers) ∧
    (∃ t, exec .rolAcc (at8000 []) = .next t ∧ Instr.rolAcc.row.mode = .accumulator) :=
  ⟨⟨_, rfl, by decide⟩, ⟨_, rfl, by decide⟩⟩

theorem witness_StoringFormsKeepEveryOtherByte :
    ∃ (s t : State) (b : Byte) (w c : Word) (f : Form), s.bus.wf = true ∧ f ∈ storingForms b w ∧ exec f.instr s = .next t ∧
      c ≠ ea f.operand s :=
  ⟨at8000 [], _, 0xFF, 0xFFFF, 0xFFFF, ⟨.staAbsX 0xFFFF, 0x9D, .absoluteX 0xFFFF, 3, 5, false⟩, by decide,
    by simp [storingForms, staForms], rfl, by decide⟩

/-- Each clause, with SP = 0x00, so that the pushes wrap. -/
theorem witness_PushingInstructionsKeepEveryOtherByte :
    (at8000 []).bus.wf = true ∧ (∃ t, exec .pha (at8000 []) = .next t) ∧ (∃ t, exec .php (at8000 []) = .next t) ∧
    (∃ t, exec (.jsr 0x9000) (at8000 []) = .next t) ∧ (∃ t, exec .brk (at8000 []) = .next t) ∧
    (0x0101 : Word) ≠ inStackPage 0 ∧ (0x0101 : Word) ≠ inStackPage (0 - 1) ∧ (0x0101 : Word) ≠ inStackPage (0 - 2) :=
  ⟨by decide, ⟨_, rfl⟩, ⟨_, rfl⟩, ⟨_, rfl⟩, ⟨_, rfl⟩, by decide, by decide, by decide⟩

theorem witness_DecimalFlagChangesNoResult :
    ∃ t, (Instr.sbcImm 0x01).row.mnemonic ∉ [Mnemonic.PHP, .BRK, .PLP, .RTI, .CLD, .SED] ∧
      exec (.sbcImm 0x01) (at8000 []) = .next t := ⟨_, by decide, rfl⟩

/-- A state of the video unit whose fields agree. -/
def videoAt (c : Nat) (active : Bool) : State := { at8000 [] with video := ⟨c, c / 341, stateOf (c / 341), active⟩ }

/-- Each of the four clauses, the last one on both sides of each edge. -/
theorem witness_PpuStepActsAtTheEdgesOfVBlank :
    ∀ c ∈ [82179, 82180, 82181, 88999, 89000, 89001, 89340, 89341, 0], ∀ b : Bool, VideoAgrees (videoAt c b) := by
  unfold VideoAgrees videoAt; decide

theorem witness_VideoUnitTouchesOnlyTheStatusBit : (at8000 [(0x2002, 0xFF)]).bus.wf = true := by decide

/-- The longest feed of fewer than 341 PPU cycles, across the start of VBlank, its end and the frame wrap; and the empty feed. -/
theorem witness_VideoAdvanceIsTheBulkForm :
    3 * 113 < 341 ∧ 3 * 0 < 341 ∧ VideoAgrees (videoAt 82000 false) ∧ VideoAgrees (videoAt 88800 true) ∧
    VideoAgrees (videoAt 89341 false) := by
  unfold VideoAgrees videoAt; decide

/-- One sample short of a batch. -/
theorem witness_AudioAdvanceMakesTheDueSamples :
    ∃ s : State, s.config.wf = true ∧ s.audio.staging.length < s.config.batchSize ∧
      s.audio.staging.length + 1 = s.config.batchSize :=
  ⟨{ State.launch { ringCapacity := 4, batchSize := 2 } [] with audio := ⟨41, 1, [7]⟩ }, by decide⟩

/-- As many staged samples as the ring has slots, and the write cursor at its last slot. -/
theorem witness_FlushMovesStagedSamplesInOrder :
    ∃ s : State, 0 < s.config.ringCapacity ∧ s.audio.staging.length = s.config.ringCapacity ∧
      Store.wf (0 : Sample) s.config.ringCapacity s.ring.slots = true ∧ s.ring.wcur % s.config.ringCapacity = 3 :=
  ⟨{ ringStart with audio := ⟨0, 0, [1, 2, 3, 4]⟩, ring := ⟨[(0, 5), (3, 6)], 7, 3⟩ }, by decide⟩

/-- Vectors A1 and A2: the listed steps and entries of samples 0 to 11, in the words of the statement. -/
theorem witness_PhaseStaysInTableAndSampleSaturates :
    (List.range 12).map (fun n => stepNat {} 8 16 n 7) = [0, 2, 5, 7, 2, 4, 7, 1, 4, 6, 1, 3] ∧
    (List.range 12).map (fun n => pulseNat {} n 7 2) = [0, 1, 0, 0, 1, 1, 0, 1, 1, 0, 1, 1] ∧
    (List.range 12).map (fun n => triangleNat {} n 15) = [15, 13, 10, 8, 5, 3, 0, 1, 4, 6, 9, 11] := by decide +kernel

/-- Both clauses: two states that differ elsewhere, and the three periods 0 with the duties and the other bits not 0. -/
theorem witness_SampleReadsOnlyTheChannelRegisters :
    (∃ s t : State, s ≠ t ∧ s.bus ≠ t.bus ∧ s.config = t.config ∧ ∀ a ∈ audioRegisters, s.read a = t.read a) ∧
    (let s := at8000 [(0x4000, 0xC0), (0x4003, 0xF8), (0x4007, 0xF8), (0x400B, 0xF8)]
     channelPeriod s 0x4002 0x4003 = 0 ∧ channelPeriod s 0x4006 0x4007 = 0 ∧ channelPeriod s 0x400A 0x400B = 0) :=
  ⟨⟨at8000 [(0x4002, 7)], at8000 [(0x4001, 1), (0x4002, 7)], by decide, by decide, rfl, by
      simp only [audioRegisters, List.forall_mem_cons, List.not_mem_nil, false_imp_iff, implies_true, and_true]
      decide⟩, by decide⟩

/-- Both outcomes of the overrun test: nothing lapped, and lapped by one. -/
theorem witness_UninterruptedPullReturnsExactlyTheBytes :
    (∃ s : State, s.callback.pull = none ∧ s.ring.wcur - s.ring.rcur = s.config.ringCapacity) ∧
    (∃ s : State, s.callback.pull = none ∧ s.ring.wcur - s.ring.rcur = s.config.ringCapacity + 1) :=
  ⟨⟨{ ringStart with ring := ⟨[], 7, 3⟩ }, by decide⟩, ⟨{ ringStart with ring := ⟨[], 8, 3⟩ }, by decide⟩⟩

/-- A Pull about to read slot 3, and four staged samples that overwrite every slot. -/
theorem witness_RacingReadReturnsOldOrNewSample :
    ∃ (s : State) (p : Pull), s.callback.unseen = [] ∧ 0 < s.config.ringCapacity ∧
      s.audio.staging.length = s.config.ringCapacity ∧
      Store.wf (0 : Sample) s.config.ringCapacity s.ring.slots = true ∧ s.callback.pull = some p ∧ p.got.length < p.count ∧
      (s.ring.rcur + p.got.length) % s.config.ringCapacity = 3 :=
  ⟨{ ringStart with
      audio := ⟨0, 0, [1, 2, 3, 4]⟩, ring := ⟨[(0, 5), (3, 6)], 4, 3⟩
      callback := ⟨some ⟨2, 1, []⟩, [], []⟩ }, ⟨2, 1, []⟩, by decide⟩

theorem witness_CallbackTurnsWriteOnlyTheReadCursor :
    (∃ s t : State, s.agenda = [.call 5 1] ∧ step s = .next t) ∧ (∃ s t : State, s.agenda = [.advance 0] ∧ step s = .next t) :=
  ⟨⟨{ ringStart with agenda := [.call 5 1] }, _, rfl, rfl⟩, ⟨{ ringStart with agenda := [.advance 0] }, _, rfl, rfl⟩⟩

/-- Two states that differ in what the callback agent did: the read cursor, a Pull in progress, and the bytes returned. -/
theorem witness_TicksDoNotDependOnTheConsumer :
    ∃ s s' t t' : State, s ≠ s' ∧ s.emulationView = s'.emulationView ∧ tick s = .next t ∧ tick s' = .next t' := by
  obtain ⟨t, ht⟩ := tick_next (s := interruptStart (P 0 0 0 0 0 0) true true) rfl (by decide +kernel)
  obtain ⟨t', ht'⟩ := tick_next (s := { interruptStart (P 0 0 0 0 0 0) true true with
    ring := ⟨[], 0, 3⟩, callback := ⟨some ⟨2, 1, []⟩, [1], [.wcur 2]⟩ }) rfl (by decide +kernel)
  exact ⟨_, _, t, t', by decide, by decide, ht, ht'⟩

/-- A machine in the middle of things: one sample made a cycle, three cycles in, two samples in the ring, one staged, a Pull in progress
that looks back before the flush of the tick last run. -/
def busy : State :=
  { State.launch { cpuClockHz := 1, sampleRateHz := 1, ringCapacity := 4, batchSize := 2 } [(0x8000, 0xEA)] with
    video := ⟨9, 0, .visible, false⟩, audio := ⟨3, 3, [5]⟩, ring := ⟨[(0, 3), (1, 4)], 2, 0⟩, sched := ⟨3, 1⟩
    callback := ⟨some ⟨5, 2, [3]⟩, [], [.slot 1 0, .slot 0 0]⟩, agenda := [.advance 1] }

theorem busy_invariant : MachineInv busy where
  config := by decide
  bus := by decide
  video := ⟨by decide, by decide, by decide, by decide⟩
  audio := ⟨by decide, by decide, by decide, by decide, by decide, by decide⟩
  consumer := ⟨Nat.le_refl 2, by rintro p ⟨⟩; decide⟩

/-- A turn of the callback agent, and a tick. -/
theorem witness_EveryStepKeepsTheInvariant :
    MachineInv busy ∧ (∃ t, step busy = .next t) ∧ ∃ t, step { busy with agenda := [] } = .next t :=
  ⟨busy_invariant, next_of_after (by decide +kernel), next_of_after (by decide +kernel)⟩

theorem witness_LaunchMeetsTheInvariant :
    ({ unknownOpcodeCycles := 1, ringCapacity := 1, batchSize := 1 } : Config).wf = true ∧
    Memory.wf [(0, 1), (65535, 255)] = true := by decide

/-- A file of one bank, and one of two, each just long enough. -/
def image (prg : Byte) (n : Nat) : List Byte := [0x4E, 0x45, 0x53, 0x1A, prg, 0] ++ List.replicate (10 + n) 0

theorem image_accepted (prg : Byte) (n : Nat) :
    imageAccepted (image prg n) = (decide (prg.toNat * 16384 ≤ n) && decide (prg.toNat ≠ 0)) := by
  have h : (image prg n).length = 16 + n := by simp [image]; omega
  rw [imageAccepted, h]
  simp [image, headerSize, signature, fileByte, prgBankSize, chrBankSize]

theorem load_of_accepted {file : List Byte} (bus : Memory) (h : imageAccepted file = true) :
    ∃ m, loadImage file bus = some m := by
  rw [loadImage, if_pos h]
  split <;> exact ⟨_, rfl⟩

theorem witness_LoaderFillsTheProgramWindows :
    Memory.wf [(0, 1)] = true ∧ (∃ m, loadImage (image 1 16384) [(0, 1)] = some m) ∧
    (∃ m, loadImage (image 2 32768) [(0, 1)] = some m) ∧ loadImage (image 1 16383) [(0, 1)] = none := by
  have refused : imageAccepted (image 1 16383) = false := by rw [image_accepted]; decide
  refine ⟨by decide, load_of_accepted _ ?_, load_of_accepted _ ?_, ?_⟩
  · rw [image_accepted]; decide
  · rw [image_accepted]; decide
  · rw [loadImage, refused]; exact if_neg Bool.false_ne_true

end Sys2Proof.Tests
end

/-! # The operation of every instruction

The 152 instruction forms run 28 operations. `exec_operation` says once which one each form runs, as far as its mnemonic tells
what the operation may write; a statement about every instruction is then a case split over the operations. -/

section

namespace Sys2Proof.Machine

/-- The register each load writes (41_load_store_transfer.md R171 to R173). -/
def loadTargets : List (Mnemonic × Reg) := [(.LDA, .A), (.LDX, .X), (.LDY, .Y)]

/-- The register each transfer that sets N and Z writes (41_load_store_transfer.md R177 to R181). -/
def transferTargets : List (Mnemonic × Reg) := [(.TAX, .X), (.TAY, .Y), (.TXA, .A), (.TYA, .A), (.TSX, .X)]

/-- The register each register increment or decrement writes (43_shift_incdec.md R237 to R240). -/
def stepTargets : List (Mnemonic × Reg) := [(.INX, .X), (.INY, .Y), (.DEX, .X), (.DEY, .Y)]

/-- The mnemonics of the shifts and rotates (43_shift_incdec.md R231 to R234). -/
def shiftMnemonics : List Mnemonic := [.ASL, .LSR, .ROL, .ROR]

/-- `Operation row f`: an instruction with the table row `row` does `f` (40_execute_cycle.md R142). One constructor an operation,
with the mnemonics that run it. -/
inductive Operation (row : Row) : (State → State) → Prop
  | load {r : Reg} (h : (row.mnemonic, r) ∈ loadTargets) (o : Operand) : Operation row (load r row o)
  | store {r : Reg} (h : row.mnemonic ∈ [.STA, .STX, .STY]) (o : Operand) : Operation row (store r row o)
  | transfer {src dst : Reg} (h : (row.mnemonic, dst) ∈ transferTargets) : Operation row (transfer src dst row)
  | transferToSp (h : row.mnemonic ∈ [.TXS]) : Operation row (transferToSp row)
  | adc (h : row.mnemonic ∈ [.ADC]) (o : Operand) : Operation row (adc row o)
  | sbc (h : row.mnemonic ∈ [.SBC]) (o : Operand) : Operation row (sbc row o)
  | logic {g : Byte → Byte → Byte} (h : row.mnemonic ∈ [.AND, .ORA, .EOR]) (o : Operand) : Operation row (logic g row o)
  | compare {r : Reg} (h : row.mnemonic ∈ [.CMP, .CPX, .CPY]) (o : Operand) : Operation row (compareReg r row o)
  | bitTest (h : row.mnemonic ∈ [.BIT]) (o : Operand) : Operation row (bitTest row o)
  | shiftA {g : Byte → Bool → Shifted} (h : row.mnemonic ∈ shiftMnemonics) (hm : row.mode = .accumulator) :
      Operation row (shiftA g row)
  | shiftMem {g : Byte → Bool → Shifted} (h : row.mnemonic ∈ shiftMnemonics) (hm : row.mode ≠ .accumulator) (o : Operand) :
      Operation row (shiftMem g row o)
  | stepMem {k : Byte} (h : row.mnemonic ∈ [.INC, .DEC]) (o : Operand) : Operation row (stepMem k row o)
  | stepReg {r : Reg} {k : Byte} (h : (row.mnemonic, r) ∈ stepTargets) : Operation row (stepReg r k row)
  | jump (h : row.mnemonic ∈ [.JMP]) (o : Operand) : Operation row (jump row o)
  | callTo (h : row.mnemonic ∈ [.JSR]) (o : Operand) : Operation row (callTo row o)
  | returnFromCall (h : row.mnemonic ∈ [.RTS]) : Operation row (returnFromCall row)
  | returnFromInterrupt (h : row.mnemonic ∈ [.RTI]) : Operation row (returnFromInterrupt row)
  | softwareInterrupt (h : row.mnemonic ∈ [.BRK]) : Operation row (softwareInterrupt row)
  | branch (cond : Flags → Bool) (r : Byte) (h : row.mnemonic ∈ [.BCC, .BCS, .BEQ, .BNE, .BMI, .BPL, .BVC, .BVS])
      (hd : ∀ (p : Flags) (b : Bool), cond { p with d := b } = cond p) :
      Operation row (fun s => branch (cond s.cpu.p) row r s)
  | advance (h : row.mnemonic ∈ [.NOP, .UNKNOWN]) : Operation row (advance row false)
  | pushA (h : row.mnemonic ∈ [.PHA]) : Operation row (fun s => pushByte s.cpu.a row s)
  | pushP (h : row.mnemonic ∈ [.PHP]) : Operation row (fun s => pushByte (packP true s.cpu.p) row s)
  | pullA (h : row.mnemonic ∈ [.PLA]) : Operation row (pullA row)
  | pullP (h : row.mnemonic ∈ [.PLP]) : Operation row (pullP row)
  | writeC (v : Bool) (h : row.mnemonic ∈ [.CLC, .SEC]) : Operation row (writeFlag (fun p => { p with c := v }) row)
  | writeI (v : Bool) (h : row.mnemonic ∈ [.CLI, .SEI]) : Operation row (writeFlag (fun p => { p with i := v }) row)
  | writeD (v : Bool) (h : row.mnemonic ∈ [.CLD, .SED]) : Operation row (writeFlag (fun p => { p with d := v }) row)
  | writeV (v : Bool) (h : row.mnemonic ∈ [.CLV]) : Operation row (writeFlag (fun p => { p with v := v }) row)

/-- Every instruction runs an operation and goes on from every state (40_execute_cycle.md R140, R142). -/
theorem exec_operation (i : Instr) : ∃ f, Operation i.row f ∧ ∀ s, exec i s = .next (f s) := by
  cases i
  case ldaIndX | ldaZp | ldaImm | ldaAbs | ldaIndY | ldaZpX | ldaAbsY | ldaAbsX =>
    exact ⟨_, .load (r := .A) (by simp [Instr.row, loadTargets]) _, fun _ => rfl⟩
  case ldxImm | ldxZp | ldxAbs | ldxZpY | ldxAbsY =>
    exact ⟨_, .load (r := .X) (by simp [Instr.row, loadTargets]) _, fun _ => rfl⟩
  case ldyImm | ldyZp | ldyAbs | ldyZpX | ldyAbsX =>
    exact ⟨_, .load (r := .Y) (by simp [Instr.row, loadTargets]) _, fun _ => rfl⟩
  case staIndX | staZp | staAbs | staIndY | staZpX | staAbsY | staAbsX | stxZp | stxAbs | stxZpY | styZp | styAbs | styZpX =>
    exact ⟨_, .store (by simp [Instr.row]) _, fun _ => rfl⟩
  case tax | tay | txa | tya | tsx =>
    exact ⟨_, .transfer (by simp [Instr.row, transferTargets]), fun _ => rfl⟩
  case txs => exact ⟨_, .transferToSp (by simp [Instr.row]), fun _ => rfl⟩
  case adcIndX | adcZp | adcImm | adcAbs | adcIndY | adcZpX | adcAbsY | adcAbsX =>
    exact ⟨_, .adc (by simp [Instr.row]) _, fun _ => rfl⟩
  case sbcIndX | sbcZp | sbcImm | sbcAbs | sbcIndY | sbcZpX | sbcAbsY | sbcAbsX =>
    exact ⟨_, .sbc (by simp [Instr.row]) _, fun _ => rfl⟩
  case andIndX | andZp | andImm | andAbs | andIndY | andZpX | andAbsY | andAbsX
      | oraIndX | oraZp | oraImm | oraAbs | oraIndY | oraZpX | oraAbsY | oraAbsX
      | eorIndX | eorZp | eorImm | eorAbs | eorIndY | eorZpX | eorAbsY | eorAbsX =>
    exact ⟨_, .logic (by simp [Instr.row]) _, fun _ => rfl⟩
  case cmpIndX | cmpZp | cmpImm | cmpAbs | cmpIndY | cmpZpX | cmpAbsY | cmpAbsX
      | cpxImm | cpxZp | cpxAbs | cpyImm | cpyZp | cpyAbs =>
    exact ⟨_, .compare (by simp [Instr.row]) _, fun _ => rfl⟩
  case bitZp | bitAbs => exact ⟨_, .bitTest (by simp [Instr.row]) _, fun _ => rfl⟩
  case aslAcc | lsrAcc | rolAcc | rorAcc =>
    exact ⟨_, .shiftA (by simp [Instr.row, shiftMnemonics]) rfl, fun _ => rfl⟩
  case aslZp | aslAbs | aslZpX | aslAbsX | lsrZp | lsrAbs | lsrZpX | lsrAbsX
      | rolZp | rolAbs | rolZpX | rolAbsX | rorZp | rorAbs | rorZpX | rorAbsX =>
    exact ⟨_, .shiftMem (by simp [Instr.row, shiftMnemonics]) (by simp [Instr.row]) _, fun _ => rfl⟩
  case incZp | incAbs | incZpX | incAbsX | decZp | decAbs | decZpX | decAbsX =>
    exact ⟨_, .stepMem (by simp [Instr.row]) _, fun _ => rfl⟩
  case inx | iny | dex | dey => exact ⟨_, .stepReg (by simp [Instr.row, stepTargets]), fun _ => rfl⟩
  case jmpAbs | jmpInd => exact ⟨_, .jump (by simp [Instr.row]) _, fun _ => rfl⟩
  case jsr => exact ⟨_, .callTo (by simp [Instr.row]) _, fun _ => rfl⟩
  case rts => exact ⟨_, .returnFromCall (by simp [Instr.row]), fun _ => rfl⟩
  case rti => exact ⟨_, .returnFromInterrupt (by simp [Instr.row]), fun _ => rfl⟩
  case brk => exact ⟨_, .softwareInterrupt (by simp [Instr.row]), fun _ => rfl⟩
  case bcc r => exact ⟨_, .branch (fun p => !p.c) r (by simp [Instr.row]) fun _ _ => rfl, fun _ => rfl⟩
  case bcs r => exact ⟨_, .branch (fun p => p.c) r (by simp [Instr.row]) fun _ _ => rfl, fun _ => rfl⟩
  case beq r => exact ⟨_, .branch (fun p => p.z) r (by simp [Instr.row]) fun _ _ => rfl, fun _ => rfl⟩
  case bne r => exact ⟨_, .branch (fun p => !p.z) r (by simp [Instr.row]) fun _ _ => rfl, fun _ => rfl⟩
  case bmi r => exact ⟨_, .branch (fun p => p.n) r (by simp [Instr.row]) fun _ _ => rfl, fun _ => rfl⟩
  case bpl r => exact ⟨_, .branch (fun p => !p.n) r (by simp [Instr.row]) fun _ _ => rfl, fun _ => rfl⟩
  case bvc r => exact ⟨_, .branch (fun p => !p.v) r (by simp [Instr.row]) fun _ _ => rfl, fun _ => rfl⟩
  case bvs r => exact ⟨_, .branch (fun p => p.v) r (by simp [Instr.row]) fun _ _ => rfl, fun _ => rfl⟩
  case nop | unknown => exact ⟨_, .advance (by simp [Instr.row]), fun _ => rfl⟩
  case pha => exact ⟨_, .pushA (by simp [Instr.row]), fun _ => rfl⟩
  case php => exact ⟨_, .pushP (by simp [Instr.row]), fun _ => rfl⟩
  case pla => exact ⟨_, .pullA (by simp [Instr.row]), fun _ => rfl⟩
  case plp => exact ⟨_, .pullP (by simp [Instr.row]), fun _ => rfl⟩
  case clc => exact ⟨_, .writeC false (by simp [Instr.row]), fun _ => rfl⟩
  case sec => exact ⟨_, .writeC true (by simp [Instr.row]), fun _ => rfl⟩
  case cli => exact ⟨_, .writeI false (by simp [Instr.row]), fun _ => rfl⟩
  case sei => exact ⟨_, .writeI true (by simp [Instr.row]), fun _ => rfl⟩
  case cld => exact ⟨_, .writeD false (by simp [Instr.row]), fun _ => rfl⟩
  case sed => exact ⟨_, .writeD true (by simp [Instr.row]), fun _ => rfl⟩
  case clv => exact ⟨_, .writeV false (by simp [Instr.row]), fun _ => rfl⟩

/-- What an instruction answers is what its operation answers. -/
theorem operation_of_exec {i : Instr} {s t : State} (h : exec i s = .next t) :
    ∃ f, Operation i.row f ∧ t = f s ∧ ∀ u, exec i u = .next (f u) := by
  obtain ⟨f, hf, he⟩ := exec_operation i
  rw [he, Host.Outcome.next.injEq] at h
  exact ⟨f, hf, h.symm, he⟩

end Sys2Proof.Machine
end

/-! # Registers change only by their writers (10_state.md R21) -/

section

namespace Sys2Proof.Machine

open Sys2Proof.Claims

variable (s : State) (row : Row) (o : Operand) (q r : Reg)

/-! ## The registers after each operation

Said through `setReg`, so that what an operation writes and what it keeps are one fact. -/

@[simp] theorem advance_reg (x : Bool) : (advance row x s).reg q = s.reg q := by simp [advance]

@[simp] theorem redirect_reg (t : Word) (k : Nat) : (redirect row t k s).reg q = s.reg q := by simp [redirect]

theorem load_reg : (load r row o s).reg q = (s.setReg r (value o s)).reg q := by simp [load]

theorem store_reg : (store r row o s).reg q = s.reg q := by simp [store]

theorem transfer_reg (src dst : Reg) : (transfer src dst row s).reg q = (s.setReg dst (s.reg src)).reg q := by
  simp [transfer]

theorem transferToSp_reg : (transferToSp row s).reg q = (s.setReg .SP s.cpu.x).reg q := by simp [transferToSp]

theorem adc_reg :
    (adc row o s).reg q = (s.setReg .A (addWithCarry s.cpu.a (value o s) s.cpu.p.c).result).reg q := by
  simp [adc, takeSum]

theorem sbc_reg :
    (sbc row o s).reg q = (s.setReg .A (addWithCarry s.cpu.a (value o s ^^^ 0xFF) s.cpu.p.c).result).reg q := by
  simp [sbc, takeSum]

theorem logic_reg (g : Byte → Byte → Byte) :
    (logic g row o s).reg q = (s.setReg .A (g s.cpu.a (value o s))).reg q := by simp [logic]

theorem compareReg_reg : (compareReg r row o s).reg q = s.reg q := by simp [compareReg]

theorem bitTest_reg : (bitTest row o s).reg q = s.reg q := by simp [bitTest]

theorem shiftA_reg (g : Byte → Bool → Shifted) :
    (shiftA g row s).reg q = (s.setReg .A (g s.cpu.a s.cpu.p.c).result).reg q := by simp [shiftA]

theorem shiftMem_reg (g : Byte → Bool → Shifted) : (shiftMem g row o s).reg q = s.reg q := by simp [shiftMem]

theorem stepMem_reg (k : Byte) : (stepMem k row o s).reg q = s.reg q := by simp [stepMem]

theorem stepReg_reg (k : Byte) : (stepReg r k row s).reg q = (s.setReg r (s.reg r + k)).reg q := by simp [stepReg]

theorem jump_reg : (jump row o s).reg q = s.reg q := by simp [jump]

theorem callTo_reg : (callTo row o s).reg q = (s.setReg .SP (s.cpu.sp - 2)).reg q := by
  rw [callTo_eq]; cases q <;> rfl

theorem returnFromCall_reg : (returnFromCall row s).reg q = (s.setReg .SP (s.cpu.sp + 2)).reg q := by
  rw [returnFromCall_eq]; cases q <;> rfl

theorem returnFromInterrupt_reg : (returnFromInterrupt row s).reg q = (s.setReg .SP (s.cpu.sp + 3)).reg q := by
  rw [returnFromInterrupt_eq]; cases q <;> rfl

theorem softwareInterrupt_reg : (softwareInterrupt row s).reg q = (s.setReg .SP (s.cpu.sp - 3)).reg q := by
  rw [softwareInterrupt, enter_eq]; cases q <;> rfl

theorem softwareInterrupt_p : (softwareInterrupt row s).cpu.p = { s.cpu.p with i := true } := by
  rw [softwareInterrupt, enter_eq]

theorem branch_reg (cond : Bool) (b : Byte) : (branch cond row b s).reg q = s.reg q := by cases cond <;> simp [branch]

theorem pushByte_reg (v : Byte) : (pushByte v row s).reg q = (s.setReg .SP (s.cpu.sp - 1)).reg q := by
  rw [pushByte_eq]; cases q <;> rfl

theorem pullA_reg :
    (pullA row s).reg q = ((s.setReg .SP (s.cpu.sp + 1)).setReg .A (s.bus.read (stackAddr (s.cpu.sp + 1)))).reg q := by
  rw [pullA_eq]; cases q <;> rfl

theorem pullP_reg : (pullP row s).reg q = (s.setReg .SP (s.cpu.sp + 1)).reg q := by
  rw [pullP_eq]; cases q <;> rfl

theorem writeFlag_reg (g : Flags → Flags) : (writeFlag g row s).reg q = s.reg q := by simp [writeFlag]

/-! ## The writers of a register -/

variable {s row o q r}

/-- The row is one of those 10_state.md R21 lists for register `q`. -/
def WritesRegister (row : Row) (q : Reg) : Prop :=
  row.mnemonic ∈ registerWriters q ∧ (row.mnemonic ∈ shiftMnemonics → row.mode = .accumulator)

theorem writesRegister_of_mem {ms : List Mnemonic} (h : row.mnemonic ∈ ms)
    (hms : ∀ m ∈ ms, m ∈ registerWriters r ∧ m ∉ shiftMnemonics) : WritesRegister row r :=
  ⟨(hms _ h).1, fun hs => absurd hs (hms _ h).2⟩

theorem writesRegister_of_target {ts : List (Mnemonic × Reg)} (h : (row.mnemonic, r) ∈ ts)
    (hts : ∀ p ∈ ts, p.1 ∈ registerWriters p.2 ∧ p.1 ∉ shiftMnemonics) : WritesRegister row r :=
  ⟨(hts _ h).1, fun hs => absurd hs (hts _ h).2⟩

theorem writesRegister_of_shiftMnemonic (h : row.mnemonic ∈ shiftMnemonics) (hm : row.mode = .accumulator) :
    WritesRegister row .A :=
  ⟨(by decide : ∀ m ∈ shiftMnemonics, m ∈ registerWriters .A) _ h, fun _ => hm⟩

/-- When a write to `r` is all that happened to the registers, a register that changed is `r`. -/
theorem WritesRegister.of_setReg {t : State} {v : Byte} (hr : WritesRegister row r)
    (he : t.reg q = (s.setReg r v).reg q) (hne : t.reg q ≠ s.reg q) : WritesRegister row q := by
  by_cases hq : q = r
  · exact hq ▸ hr
  · rw [reg_setReg, if_neg hq] at he
    exact absurd he hne

/-- A register changes only in an operation of one of its writers. -/
theorem Operation.writesRegister {f : State → State} (hf : Operation row f) (hne : (f s).reg q ≠ s.reg q) :
    WritesRegister row q := by
  cases hf with
  | load h => exact (writesRegister_of_target h (by decide)).of_setReg (load_reg ..) hne
  | store => exact absurd (store_reg ..) hne
  | transfer h => exact (writesRegister_of_target h (by decide)).of_setReg (transfer_reg ..) hne
  | transferToSp h => exact (writesRegister_of_mem h (by decide)).of_setReg (transferToSp_reg ..) hne
  | adc h => exact (writesRegister_of_mem h (by decide)).of_setReg (adc_reg ..) hne
  | sbc h => exact (writesRegister_of_mem h (by decide)).of_setReg (sbc_reg ..) hne
  | logic h => exact (writesRegister_of_mem h (by decide)).of_setReg (logic_reg ..) hne
  | compare => exact absurd (compareReg_reg ..) hne
  | bitTest => exact absurd (bitTest_reg ..) hne
  | shiftA h hm => exact (writesRegister_of_shiftMnemonic h hm).of_setReg (shiftA_reg ..) hne
  | shiftMem => exact absurd (shiftMem_reg ..) hne
  | stepMem => exact absurd (stepMem_reg ..) hne
  | stepReg h => exact (writesRegister_of_target h (by decide)).of_setReg (stepReg_reg ..) hne
  | jump => exact absurd (jump_reg ..) hne
  | callTo h => exact (writesRegister_of_mem h (by decide)).of_setReg (callTo_reg ..) hne
  | returnFromCall h => exact (writesRegister_of_mem h (by decide)).of_setReg (returnFromCall_reg ..) hne
  | returnFromInterrupt h => exact (writesRegister_of_mem h (by decide)).of_setReg (returnFromInterrupt_reg ..) hne
  | softwareInterrupt h => exact (writesRegister_of_mem h (by decide)).of_setReg (softwareInterrupt_reg ..) hne
  | branch => exact absurd (branch_reg ..) hne
  | advance => exact absurd (advance_reg ..) hne
  | pushA h | pushP h => exact (writesRegister_of_mem h (by decide)).of_setReg (pushByte_reg ..) hne
  | pullA h =>
    -- PLA writes two registers: SP by the pull, then A.
    by_cases hsp : q = .SP
    · exact hsp ▸ writesRegister_of_mem h (by decide)
    · refine (writesRegister_of_mem h (by decide)).of_setReg (pullA_reg s row q) ?_
      rwa [reg_setReg, if_neg hsp]
  | pullP h => exact (writesRegister_of_mem h (by decide)).of_setReg (pullP_reg ..) hne
  | writeC | writeI | writeD | writeV => exact absurd (writeFlag_reg ..) hne

/-- Settles O39: each operation writes the registers its mnemonics are listed for. -/
theorem registersChangeOnlyByTheirWriters : Obligations.RegistersChangeOnlyByTheirWriters := by
  intro i s t r h hne
  obtain ⟨f, hf, rfl, -⟩ := operation_of_exec h
  exact hf.writesRegister hne

end Sys2Proof.Machine
end

/-! # Flags change only by their writers (10_state.md R28) -/

section

namespace Sys2Proof.Machine

open Sys2Proof.Claims

/-- From `p` to `p'` only flags changed for which 10_state.md R28 lists `m`. -/
structure FlagsWrittenBy (m : Mnemonic) (p p' : Flags) : Prop where
  c : p'.c ≠ p.c → m ∈ cWriters
  z : p'.z ≠ p.z → m ∈ nzWriters
  n : p'.n ≠ p.n → m ∈ nzWriters
  v : p'.v ≠ p.v → m ∈ vWriters
  i : p'.i ≠ p.i → m ∈ iWriters
  d : p'.d ≠ p.d → m ∈ dWriters

namespace FlagsWrittenBy

variable {m : Mnemonic} {p : Flags}

theorem refl : FlagsWrittenBy m p p := by constructor <;> exact absurd rfl

/-- C and V given new values, then N and Z. -/
theorem of_setNZ_cv {c v : Bool} (b : Byte) (hc : c ≠ p.c → m ∈ cWriters) (hv : v ≠ p.v → m ∈ vWriters)
    (hnz : m ∈ nzWriters) : FlagsWrittenBy m p (setNZ b { p with c := c, v := v }) :=
  ⟨hc, fun _ => hnz, fun _ => hnz, hv, absurd rfl, absurd rfl⟩

theorem of_setNZ (b : Byte) (hnz : m ∈ nzWriters) : FlagsWrittenBy m p (setNZ b p) :=
  of_setNZ_cv b (absurd rfl) (absurd rfl) hnz

theorem of_sumFlags (t : Sum) (hc : m ∈ cWriters) (hv : m ∈ vWriters) (hnz : m ∈ nzWriters) :
    FlagsWrittenBy m p (sumFlags t p) :=
  of_setNZ_cv t.result (fun _ => hc) (fun _ => hv) hnz

theorem of_compareFlags (a b : Byte) (hc : m ∈ cWriters) (hnz : m ∈ nzWriters) : FlagsWrittenBy m p (compareFlags a b p) :=
  of_setNZ_cv (a - b) (fun _ => hc) (absurd rfl) hnz

theorem of_shiftFlags (t : Shifted) (hc : m ∈ cWriters) (hnz : m ∈ nzWriters) : FlagsWrittenBy m p (shiftFlags t p) :=
  of_setNZ_cv t.result (fun _ => hc) (absurd rfl) hnz

theorem of_bitFlags (a b : Byte) (hv : m ∈ vWriters) (hnz : m ∈ nzWriters) : FlagsWrittenBy m p (bitFlags a b p) :=
  ⟨absurd rfl, fun _ => hnz, fun _ => hnz, fun _ => hv, absurd rfl, absurd rfl⟩

/-- A mnemonic that every list names may put anything in P. -/
theorem of_mem_all {p' : Flags} (hc : m ∈ cWriters) (hnz : m ∈ nzWriters) (hv : m ∈ vWriters) (hi : m ∈ iWriters)
    (hd : m ∈ dWriters) : FlagsWrittenBy m p p' :=
  ⟨fun _ => hc, fun _ => hnz, fun _ => hnz, fun _ => hv, fun _ => hi, fun _ => hd⟩

end FlagsWrittenBy

variable {row : Row} {r : Reg} {ws : List Mnemonic}

theorem mem_of_listed {ms : List Mnemonic} (h : row.mnemonic ∈ ms) (hms : ∀ m ∈ ms, m ∈ ws) : row.mnemonic ∈ ws :=
  hms _ h

theorem mem_of_target {ts : List (Mnemonic × Reg)} (h : (row.mnemonic, r) ∈ ts) (hts : ∀ p ∈ ts, p.1 ∈ ws) :
    row.mnemonic ∈ ws :=
  hts _ h

/-- A flag changes only in an operation of one of its writers. -/
theorem Operation.flagsWritten {f : State → State} (hf : Operation row f) (s : State) :
    FlagsWrittenBy row.mnemonic s.cpu.p (f s).cpu.p := by
  cases hf with
  | load h => rw [load_eq]; exact .of_setNZ _ (mem_of_target h (by decide))
  | store => rw [store_eq]; exact .refl
  | transfer h => rw [transfer_eq]; exact .of_setNZ _ (mem_of_target h (by decide))
  | transferToSp => rw [transferToSp_eq]; exact .refl
  | adc h =>
    rw [adc_eq]
    exact .of_sumFlags _ (mem_of_listed h (by decide)) (mem_of_listed h (by decide)) (mem_of_listed h (by decide))
  | sbc h =>
    rw [sbc_eq]
    exact .of_sumFlags _ (mem_of_listed h (by decide)) (mem_of_listed h (by decide)) (mem_of_listed h (by decide))
  | logic h => rw [logic_eq]; exact .of_setNZ _ (mem_of_listed h (by decide))
  | compare h =>
    rw [compareReg_eq]
    exact .of_compareFlags _ _ (mem_of_listed h (by decide)) (mem_of_listed h (by decide))
  | bitTest h => rw [bitTest_eq]; exact .of_bitFlags _ _ (mem_of_listed h (by decide)) (mem_of_listed h (by decide))
  | shiftA h => rw [shiftA_eq]; exact .of_shiftFlags _ (mem_of_listed h (by decide)) (mem_of_listed h (by decide))
  | shiftMem h => rw [shiftMem_eq]; exact .of_shiftFlags _ (mem_of_listed h (by decide)) (mem_of_listed h (by decide))
  | stepMem h => rw [stepMem_eq]; exact .of_setNZ _ (mem_of_listed h (by decide))
  | stepReg h => rw [stepReg_eq]; exact .of_setNZ _ (mem_of_target h (by decide))
  | jump => rw [jump_eq]; exact .refl
  | callTo => rw [callTo_eq]; exact .refl
  | returnFromCall => rw [returnFromCall_eq]; exact .refl
  | returnFromInterrupt h =>
    rw [List.mem_singleton.1 h]
    exact .of_mem_all (by decide) (by decide) (by decide) (by decide) (by decide)
  | softwareInterrupt h =>
    rw [softwareInterrupt_p]
    exact ⟨absurd rfl, absurd rfl, absurd rfl, absurd rfl, fun _ => mem_of_listed h (by decide), absurd rfl⟩
  | branch => simp only [branch_eq]; exact .refl
  | advance => rw [advance_eq]; exact .refl
  | pushA | pushP => simp only [pushByte_eq]; exact .refl
  | pullA h => rw [pullA_eq]; exact .of_setNZ _ (mem_of_listed h (by decide))
  | pullP h =>
    rw [List.mem_singleton.1 h]
    exact .of_mem_all (by decide) (by decide) (by decide) (by decide) (by decide)
  | writeC _ h =>
    rw [writeFlag_eq]
    exact ⟨fun _ => mem_of_listed h (by decide), absurd rfl, absurd rfl, absurd rfl, absurd rfl, absurd rfl⟩
  | writeI _ h =>
    rw [writeFlag_eq]
    exact ⟨absurd rfl, absurd rfl, absurd rfl, absurd rfl, fun _ => mem_of_listed h (by decide), absurd rfl⟩
  | writeD _ h =>
    rw [writeFlag_eq]
    exact ⟨absurd rfl, absurd rfl, absurd rfl, absurd rfl, absurd rfl, fun _ => mem_of_listed h (by decide)⟩
  | writeV _ h =>
    rw [writeFlag_eq]
    exact ⟨absurd rfl, absurd rfl, absurd rfl, fun _ => mem_of_listed h (by decide), absurd rfl, absurd rfl⟩

/-- Settles O40: each operation writes the flags its mnemonics are listed for. -/
theorem flagsChangeOnlyByTheirWriters : Obligations.FlagsChangeOnlyByTheirWriters := by
  intro i s t h
  obtain ⟨f, hf, rfl, -⟩ := operation_of_exec h
  obtain ⟨hc, hz, hn, hv, hi, hd⟩ := hf.flagsWritten s
  exact ⟨hc, hz, hn, hv, hi, hd⟩

end Sys2Proof.Machine
end

/-! # P.D changes no result (10_state.md R29)

Everything an operation reads is the same in `withD b s` as in `s`, and every update of the state commutes with `withD b`, but
the packing and the writing of P.D itself. -/

section

namespace Sys2Proof.Machine

open Sys2Proof.Claims

section WithD

variable (b : Bool) (s : State) (row : Row) (o : Operand)

@[simp] theorem withD_a : (withD b s).cpu.a = s.cpu.a := rfl
@[simp] theorem withD_x : (withD b s).cpu.x = s.cpu.x := rfl
@[simp] theorem withD_y : (withD b s).cpu.y = s.cpu.y := rfl
@[simp] theorem withD_sp : (withD b s).cpu.sp = s.cpu.sp := rfl
@[simp] theorem withD_pc : (withD b s).cpu.pc = s.cpu.pc := rfl
@[simp] theorem withD_c : (withD b s).cpu.p.c = s.cpu.p.c := rfl
@[simp] theorem withD_bus : (withD b s).bus = s.bus := rfl
@[simp] theorem withD_reg (r : Reg) : (withD b s).reg r = s.reg r := by cases r <;> rfl
@[simp] theorem withD_read (a : Word) : (withD b s).read a = s.read a := rfl

@[simp] theorem ea_withD : ea o (withD b s) = ea o s := by cases o <;> rfl
@[simp] theorem crossed_withD : crossed o (withD b s) = crossed o s := by cases o <;> rfl
@[simp] theorem value_withD : value o (withD b s) = value o s := by cases o <;> rfl
@[simp] theorem branchTarget_withD (r : Byte) : branchTarget r (withD b s) = branchTarget r s := rfl
@[simp] theorem branchExtra_withD (r : Byte) : branchExtra r (withD b s) = branchExtra r s := rfl

@[simp] theorem setReg_withD (r : Reg) (v : Byte) : (withD b s).setReg r v = withD b (s.setReg r v) := by cases r <;> rfl
@[simp] theorem write_withD (a : Word) (v : Byte) : (withD b s).write a v = withD b (s.write a v) := rfl
@[simp] theorem advance_withD (x : Bool) : advance row x (withD b s) = withD b (advance row x s) := rfl
@[simp] theorem redirect_withD (t : Word) (k : Nat) : redirect row t k (withD b s) = withD b (redirect row t k s) := rfl

@[simp] theorem updP_setNZ_withD (v : Byte) : (withD b s).updP (setNZ v) = withD b (s.updP (setNZ v)) := rfl
@[simp] theorem updP_compareFlags_withD (r m : Byte) :
    (withD b s).updP (compareFlags r m) = withD b (s.updP (compareFlags r m)) := rfl
@[simp] theorem updP_bitFlags_withD (a m : Byte) :
    (withD b s).updP (bitFlags a m) = withD b (s.updP (bitFlags a m)) := rfl
@[simp] theorem updP_shiftFlags_withD (t : Shifted) :
    (withD b s).updP (shiftFlags t) = withD b (s.updP (shiftFlags t)) := rfl
@[simp] theorem takeSum_withD (t : Sum) : takeSum t (withD b s) = withD b (takeSum t s) := rfl

@[simp] theorem push_withD (v : Byte) : push v (withD b s) = withD b (push v s) := rfl
@[simp] theorem pushWord_withD (w : Word) : pushWord w (withD b s) = withD b (pushWord w s) := rfl
@[simp] theorem pop_value_withD : (pop (withD b s)).value = (pop s).value := rfl
@[simp] theorem pop_state_withD : (pop (withD b s)).state = withD b (pop s).state := rfl
@[simp] theorem popWord_value_withD : (popWord (withD b s)).value = (popWord s).value := rfl
@[simp] theorem popWord_state_withD : (popWord (withD b s)).state = withD b (popWord s).state := rfl

end WithD

/-- The mnemonics that write D or push P: for these alone does P.D play a part (10_state.md R28, R29). -/
def dMnemonics : List Mnemonic := [.PHP, .BRK, .PLP, .RTI, .CLD, .SED]

/-- An operation whose mnemonics neither write D nor push P commutes with putting a value in P.D. -/
theorem operation_withD_comm {row : Row} {f : State → State} (hf : Operation row f) (hd : row.mnemonic ∉ dMnemonics)
    (b : Bool) (s : State) : f (withD b s) = withD b (f s) := by
  cases hf with
  | load => simp [load]
  | store => simp [store]
  | transfer => simp [transfer]
  | transferToSp => simp [transferToSp]
  | adc => simp [adc]
  | sbc => simp [sbc]
  | logic => simp [logic]
  | compare => simp [compareReg]
  | bitTest => simp [bitTest]
  | shiftA => simp [shiftA]
  | shiftMem => simp [shiftMem]
  | stepMem => simp [stepMem]
  | stepReg => simp [stepReg]
  | jump => simp [jump]
  | callTo => simp [callTo]
  | returnFromCall => simp [returnFromCall]
  | branch cond r _ hcond =>
    have hc : cond (withD b s).cpu.p = cond s.cpu.p := hcond s.cpu.p b
    simp only [branch, hc, branchTarget_withD, branchExtra_withD, redirect_withD, advance_withD, apply_ite (withD b)]
  | advance => exact advance_withD b s row false
  | pushA => simp [pushByte]
  | pullA => simp [pullA]
  | writeC | writeI | writeV => rfl
  | returnFromInterrupt h => exact absurd (mem_of_listed h (by decide)) hd
  | softwareInterrupt h => exact absurd (mem_of_listed h (by decide)) hd
  | pushP h | pullP h => exact absurd (mem_of_listed h (by decide)) hd
  | writeD _ h => exact absurd (mem_of_listed h (by decide)) hd

/-- Settles O44: every operation that is left commutes with putting a value in P.D. -/
theorem decimalFlagChangesNoResult : Obligations.DecimalFlagChangesNoResult := by
  intro i s t b hd h
  obtain ⟨f, hf, rfl, he⟩ := operation_of_exec h
  rw [he, operation_withD_comm hf hd]

end Sys2Proof.Machine
end

/-! # The status byte (10_state.md R26, R27) -/

section

namespace Sys2Proof.Machine

/-- A byte is the sum of its bits. -/
theorem byte_toNat_bits (v : Byte) :
    v.toNat = 128 * (v.getLsbD 7).toNat + 64 * (v.getLsbD 6).toNat + 32 * (v.getLsbD 5).toNat +
      16 * (v.getLsbD 4).toNat + 8 * (v.getLsbD 3).toNat + 4 * (v.getLsbD 2).toNat + 2 * (v.getLsbD 1).toNat +
      (v.getLsbD 0).toNat := by
  have hv := v.isLt
  simp only [BitVec.getLsbD, Nat.toNat_testBit]
  omega

/-- Only bit 0 of a flag's byte can be set. -/
@[simp] theorem bit_getElem (b : Bool) (k : Nat) (hk : k < 8) : (bit b)[k] = (decide (k = 0) && b) := by
  cases b <;> simp [bit]

/-- The packed byte bit by bit. -/
theorem packP_toNat (b : Bool) (p : Flags) :
    (packP b p).toNat = 128 * p.n.toNat + 64 * p.v.toNat + 32 + 16 * b.toNat + 8 * p.d.toNat + 4 * p.i.toNat +
      2 * p.z.toNat + p.c.toNat := by
  rw [byte_toNat_bits]
  simp [packP]

/-- Unpacking gives the packed flags back, whatever B was. -/
@[simp] theorem unpackP_packP (b : Bool) (p : Flags) : unpackP (packP b p) = p := by
  simp [unpackP, packP]

/-- Unpacking ignores bits 5 and 4, those the mask 0xCF clears. -/
theorem unpackP_mask (v : Byte) : unpackP (v &&& 0xCF) = unpackP v := by
  simp [unpackP]

/-- The mask 0xCF keeps the six bits that hold flags. -/
theorem toNat_mask (v : Byte) :
    (v &&& 0xCF).toNat = 128 * (v.getLsbD 7).toNat + 64 * (v.getLsbD 6).toNat + 8 * (v.getLsbD 3).toNat +
      4 * (v.getLsbD 2).toNat + 2 * (v.getLsbD 1).toNat + (v.getLsbD 0).toNat := by
  rw [byte_toNat_bits]
  simp

/-- Packing what was unpacked gives every bit but 5 and 4 back. -/
theorem packP_unpackP_toNat (b : Bool) (v : Byte) :
    (packP b (unpackP v)).toNat = (v &&& 0xCF).toNat + 32 + 16 * b.toNat := by
  rw [packP_toNat, toNat_mask]
  simp only [unpackP]
  omega

/-- Settles O33: both bytes are compared as sums of their bits. -/
theorem statusByteLayoutAndRoundTrip : Obligations.StatusByteLayoutAndRoundTrip :=
  fun b p => ⟨packP_toNat b p, unpackP_packP b p, fun v => ⟨(unpackP_mask v).symm, packP_unpackP_toNat b v⟩⟩

end Sys2Proof.Machine
end

/-! # The state after reset (10_state.md R39) -/

section

namespace Sys2Proof.Machine

variable (g : Config) (bus : Memory)

/-- Each field of the launched video unit is its value at cycle 0. -/
theorem launch_videoInv : VideoInv (State.launch g bus) where
  phase := rfl
  scanline := (Nat.zero_div _).symm
  vstate := rfl
  active := rfl

variable {g}

theorem Config.batchSize_pos (h : g.wf = true) : 0 < g.batchSize := by
  simp only [Config.wf, Bool.and_eq_true, decide_eq_true_eq] at h
  omega

/-- At launch no cycle is fed, so no sample is due, and none is made, staged or written. -/
theorem launch_audioInv (h : g.wf = true) : AudioInv (State.launch g bus) where
  phase := rfl
  made := by simp [State.launch, samplesDue]
  staged := Config.batchSize_pos h
  written := rfl
  batches := Nat.zero_mod _
  slots := rfl

/-- At launch both cursors are 0 and no Pull is in progress. -/
theorem launch_consumerInv : ConsumerInv (State.launch g bus) where
  behind := Nat.le_refl 0
  pulling := nofun

variable {bus}

theorem launch_machineInv (hg : g.wf = true) (hbus : bus.wf = true) : MachineInv (State.launch g bus) where
  config := hg
  bus := hbus
  video := launch_videoInv g bus
  audio := launch_audioInv bus hg
  consumer := launch_consumerInv bus

/-- Settles O58: `State.reset` is the launch on the executable defaults and the empty bus, both of which are legal. -/
theorem launchMeetsTheInvariant : Obligations.LaunchMeetsTheInvariant :=
  ⟨launch_machineInv (by decide) rfl, fun _ _ => launch_machineInv⟩

/-- Settles O59: every entry of the table is a field of `State.launch`; the pc is the word at the Reset vector, and an unlisted slot
of the ring reads 0. -/
theorem launchStateIsTheResetTable : Obligations.LaunchStateIsTheResetTable := by
  intro g bus
  have hpc : (State.launch g bus).cpu.pc = word (bus.read 0xFFFD) (bus.read 0xFFFC) := rfl
  have hslots : ∀ k, (State.launch g bus).ring.slot k = 0 := Store.get_nil 0
  exact ⟨rfl, rfl, rfl, rfl, hpc, rfl, rfl, rfl, rfl, rfl, rfl, rfl, rfl, rfl, rfl, rfl, rfl, rfl, rfl, rfl, hslots,
    rfl, rfl, rfl, rfl⟩

end Sys2Proof.Machine
end

/-! # A store is seen by the next fetch (20_memory.md R77)

Every storing instruction performs a `Storing`: it leaves the pc at the next instruction and the bus with the bytes written in
order. What the next fetch reads then follows from the laws of the bus alone. -/

section

namespace Sys2Proof.Machine

open Sys2Proof.Claims

/-! ## The bus after a list of stores -/

/-- The bus `m` with the bytes of `ws`, the latest first, written to it. -/
def busAfter (m : Memory) : List (Word × Byte) → Memory
  | [] => m
  | (a, v) :: ws => (busAfter m ws).write a v

theorem busAfter_wf {m : Memory} (h : m.wf = true) (ws : List (Word × Byte)) : (busAfter m ws).wf = true := by
  induction ws with
  | nil => exact h
  | cons e ws ih => exact Memory.write_wf ih e.1 e.2

theorem read_busAfter {s : State} (h : s.bus.wf = true) (ws : List (Word × Byte)) (c : Word) :
    (busAfter s.bus ws).read c = byteAfter s ws c := by
  induction ws with
  | nil => rfl
  | cons e ws ih => rw [busAfter, Memory.read_write (busAfter_wf h ws), ih]; rfl

/-- The claims' address in the stack page is the model's. -/
@[simp] theorem inStackPage_eq (v : Byte) : inStackPage v = stackAddr v := by
  have := v.isLt
  apply BitVec.eq_of_toNat_eq
  rw [stackAddr_toNat, inStackPage, BitVec.toNat_ofNat]
  omega

/-! ## What the read-modify-write forms store -/

/-- The shift `g` writes the byte that `n` gives on numbers. -/
def WritesNat (g : Byte → Bool → Shifted) (n : Nat → Nat → Nat × Bool) : Prop :=
  ∀ (v : Byte) (p : Flags), (g v p.c).result = shiftedByte n v p

theorem bit_toNat (p : Flags) : (bit p.c).toNat = c01 p := by
  unfold bit c01; cases p.c <;> rfl

theorem c01_le_one (p : Flags) : c01 p ≤ 1 := by
  unfold c01; split <;> omega

/-- Bit 0 of a byte shifted left is free. -/
theorem shiftLeft_or_bit (v : Byte) (c : Bool) : v <<< 1 ||| bit c = v <<< 1 + bit c := by
  refine (BitVec.add_eq_or_of_and_eq_zero _ _ ?_).symm
  ext k hk
  simp +contextual

/-- Bit 7 of a byte shifted right is free. -/
theorem shiftRight_or_bit (v : Byte) (c : Bool) : v >>> 1 ||| bit c <<< 7 = v >>> 1 + bit c <<< 7 := by
  refine (BitVec.add_eq_or_of_and_eq_zero _ _ ?_).symm
  ext k hk
  rcases Nat.lt_or_ge k 7 with h | h
  · simp [h]
  · obtain rfl : k = 7 := by omega
    simp

theorem aslByte_writesNat : WritesNat aslByte aslNat := by
  intro v p
  simp only [aslByte, shiftedByte, aslNat]
  bv_omega

theorem lsrByte_writesNat : WritesNat lsrByte lsrNat := by
  intro v p
  simp only [lsrByte, shiftedByte, lsrNat]
  bv_omega

theorem rolByte_writesNat : WritesNat rolByte rolNat := by
  intro v p
  have hbit := bit_toNat p
  simp only [rolByte, shiftedByte, rolNat, shiftLeft_or_bit]
  bv_omega

theorem rorByte_writesNat : WritesNat rorByte rorNat := by
  intro v p
  have hbit := bit_toNat p
  have hc := c01_le_one p
  simp only [rorByte, shiftedByte, rorNat, shiftRight_or_bit]
  bv_omega

theorem add_ofNat_eq_plus (v : Byte) (k : Nat) : v + BitVec.ofNat 8 k = plus v k := by
  apply BitVec.eq_of_toNat_eq
  simp [plus]

/-! ## The operation of every form that stores -/

/-- The form's instruction runs the operation `g` on the form's operand, and its row has the form's length. -/
structure RunsAs (g : Row → Operand → State → State) (f : Form) : Prop where
  length : 1 + f.instr.row.mode.operandLength = f.length
  exec : ∀ s, exec f.instr s = .next (g f.instr.row f.operand s)

section Forms

variable {b : Byte} {w : Word}

theorem staForms_runAs : ∀ f ∈ staForms b w, RunsAs (store .A) f := by
  intro f hf; fin_cases hf <;> exact ⟨rfl, fun _ => rfl⟩

theorem stxForms_runAs : ∀ f ∈ stxForms b w, RunsAs (store .X) f := by
  intro f hf; fin_cases hf <;> exact ⟨rfl, fun _ => rfl⟩

theorem styForms_runAs : ∀ f ∈ styForms b w, RunsAs (store .Y) f := by
  intro f hf; fin_cases hf <;> exact ⟨rfl, fun _ => rfl⟩

theorem aslForms_runAs : ∀ f ∈ aslForms b w, RunsAs (shiftMem aslByte) f := by
  intro f hf; fin_cases hf <;> exact ⟨rfl, fun _ => rfl⟩

theorem lsrForms_runAs : ∀ f ∈ lsrForms b w, RunsAs (shiftMem lsrByte) f := by
  intro f hf; fin_cases hf <;> exact ⟨rfl, fun _ => rfl⟩

theorem rolForms_runAs : ∀ f ∈ rolForms b w, RunsAs (shiftMem rolByte) f := by
  intro f hf; fin_cases hf <;> exact ⟨rfl, fun _ => rfl⟩

theorem rorForms_runAs : ∀ f ∈ rorForms b w, RunsAs (shiftMem rorByte) f := by
  intro f hf; fin_cases hf <;> exact ⟨rfl, fun _ => rfl⟩

theorem incForms_runAs : ∀ f ∈ incForms b w, RunsAs (stepMem 1) f := by
  intro f hf; fin_cases hf <;> exact ⟨rfl, fun _ => rfl⟩

theorem decForms_runAs : ∀ f ∈ decForms b w, RunsAs (stepMem 0xFF) f := by
  intro f hf; fin_cases hf <;> exact ⟨rfl, fun _ => rfl⟩

end Forms

/-! ## Every storing instruction performs its stores -/

/-- From `s` the instruction of `x` answers a state with the pc at `x.next` and the bytes of `x.stored` written to the bus. -/
def Performs (s : State) (x : Storing) : Prop :=
  ∃ t, exec x.instr s = .next t ∧ t.cpu.pc = x.next ∧ t.bus = busAfter s.bus x.stored

variable {s : State} {f : Form}

theorem store_performs {r : Reg} (hf : RunsAs (store r) f) : Performs s (f.storing s fun _ => s.reg r) :=
  ⟨_, hf.exec s, by rw [store_eq, hf.length]; rfl, by rw [store_eq]; rfl⟩

theorem shiftMem_performs {g : Byte → Bool → Shifted} {n : Nat → Nat → Nat × Bool} (hf : RunsAs (shiftMem g) f)
    (hg : WritesNat g n) : Performs s (f.storing s fun a => shiftedByte n (s.read a) s.cpu.p) :=
  ⟨_, hf.exec s, by rw [shiftMem_eq, hf.length]; rfl, by rw [shiftMem_eq, hg]; rfl⟩

theorem stepMem_performs {k : Nat} (hf : RunsAs (stepMem (BitVec.ofNat 8 k)) f) :
    Performs s (f.storing s fun a => plus (s.read a) k) :=
  ⟨_, hf.exec s, by rw [stepMem_eq, hf.length]; rfl, by rw [stepMem_eq, add_ofNat_eq_plus]; rfl⟩

theorem pha_performs : Performs s ⟨.pha, [(inStackPage s.cpu.sp, s.cpu.a)], s.cpu.pc + 1⟩ :=
  ⟨pushByte s.cpu.a Instr.pha.row s, rfl, rfl, by rw [pushByte_eq, inStackPage_eq]; rfl⟩

theorem php_performs : Performs s ⟨.php, [(inStackPage s.cpu.sp, packP true s.cpu.p)], s.cpu.pc + 1⟩ :=
  ⟨pushByte (packP true s.cpu.p) Instr.php.row s, rfl, rfl, by rw [pushByte_eq, inStackPage_eq]; rfl⟩

theorem jsr_performs (w : Word) :
    Performs s ⟨.jsr w,
      [(inStackPage (s.cpu.sp - 1), lo (s.cpu.pc + 2)), (inStackPage s.cpu.sp, hi (s.cpu.pc + 2))], w⟩ :=
  ⟨callTo (Instr.jsr w).row (.absolute w) s, rfl, by rw [callTo_eq]; rfl, by rw [callTo_eq]; simp [busAfter]⟩

/-- The vector BRK goes through lies outside the stack page, so its pushes do not reach it. -/
theorem brk_performs (h : s.bus.wf = true) :
    Performs s ⟨.brk, [(inStackPage (s.cpu.sp - 2), packP true s.cpu.p), (inStackPage (s.cpu.sp - 1), lo (s.cpu.pc + 2)),
      (inStackPage s.cpu.sp, hi (s.cpu.pc + 2))], word (s.read 0xFFFF) (s.read 0xFFFE)⟩ := by
  refine ⟨softwareInterrupt Instr.brk.row s, rfl, ?_, ?_⟩ <;> rw [softwareInterrupt, enter_eq]
  · exact enter_readWord s h _ _ _ _ _ _ (by decide) (by decide)
  · simp [busAfter]

/-- Each storing form runs an operation that stores at its effective address; the pushing instructions store in the stack page. -/
theorem everyStoring_performs (h : s.bus.wf = true) (b : Byte) (w : Word) : ∀ x ∈ everyStoring s b w, Performs s x := by
  simp only [everyStoring, List.forall_mem_append, List.forall_mem_map, List.forall_mem_cons, and_assoc]
  exact ⟨fun f hf => store_performs (staForms_runAs f hf),
    fun f hf => store_performs (stxForms_runAs f hf),
    fun f hf => store_performs (styForms_runAs f hf),
    fun f hf => shiftMem_performs (aslForms_runAs f hf) aslByte_writesNat,
    fun f hf => shiftMem_performs (lsrForms_runAs f hf) lsrByte_writesNat,
    fun f hf => shiftMem_performs (rolForms_runAs f hf) rolByte_writesNat,
    fun f hf => shiftMem_performs (rorForms_runAs f hf) rorByte_writesNat,
    fun f hf => stepMem_performs (incForms_runAs f hf),
    fun f hf => stepMem_performs (decForms_runAs f hf),
    pha_performs, php_performs, jsr_performs w, brk_performs h, nofun⟩

/-! ## The next fetch -/

/-- Of the bus, the end of a tick writes the status byte alone, so a fetch that does not read it stays as it is. -/
theorem fetch_endTick (h : s.bus.wf = true) (hk : ∀ k ∈ [(0 : Word), 1, 2], s.cpu.pc + k ≠ vblankStatusAddr) :
    fetch (endTick s) = fetch s := by
  simp only [List.forall_mem_cons, add_zero] at hk
  obtain ⟨h0, h1, h2, -⟩ := hk
  simp only [fetch, endTick_cpu, endTick_read_other s h h0, endTick_read_other s h h1, endTick_read_other s h h2]

/-- Settles O35: the bytes the next fetch reads are those of the bus the instruction leaves, which holds what was stored over what
was there. -/
theorem storeIsSeenByTheNextFetch : Obligations.StoreIsSeenByTheNextFetch := by
  intro s b w h x hx byte
  obtain ⟨t, he, hpc, hbus⟩ := everyStoring_performs h b w x hx
  have hread (c : Word) : t.read c = byteAfter s x.stored c := by rw [State.read, hbus, read_busAfter h]
  refine ⟨t, he, ?_, fun hk => fetch_endTick (hbus ▸ busAfter_wf h _) (hpc ▸ hk)⟩
  simp only [fetch, hread, hpc, byte, add_zero]

end Sys2Proof.Machine
end

/-! # Encoding and decoding (30_encoding.md R100 to R102, R117 to R125)

`decode` takes from the bytes after the opcode as many as the opcode's mode has and hands them to `decodeBytes`; both round trips then
follow from the laws of `decodeBytes`. -/

section

namespace Sys2Proof

/-- `decode` reads what `decodeBytes` reads from the operand bytes, and leaves the bytes after them. -/
theorem decode_operand_append (op b1 b2 : Byte) (rest : List Byte) :
    decode (op :: ([b1, b2].take (operandLengthOf op) ++ rest)) = .ok (decodeBytes op b1 b2, rest) := by
  rcases operandLength_cases (decodeBytes op 0 0).row.mode with h | h | h <;> change operandLengthOf op = _ at h
  · rw [h]; exact decode_none _ h (decodeBytes_congr (by rw [h]; rfl))
  · rw [h]; exact decode_one _ h (decodeBytes_congr (by rw [h]; rfl))
  · rw [h]; exact decode_two _ h rfl

/-- An instruction has as many operand bytes as its mode (R102). -/
theorem operandBytes_length (i : Instr) : i.operandBytes.length = i.row.mode.operandLength := by
  cases i <;> rfl

/-- The operand bytes of an instruction are the first of two bytes. -/
theorem exists_take_eq_operandBytes (i : Instr) :
    ∃ b1 b2 : Byte, [b1, b2].take i.row.mode.operandLength = i.operandBytes := by
  have hlen := operandBytes_length i
  rcases operandLength_cases i.row.mode with h | h | h <;> rw [h] at hlen ⊢
  · exact ⟨0, 0, (List.length_eq_zero_iff.mp hlen).symm⟩
  · obtain ⟨b, hb⟩ := List.length_eq_one_iff.mp hlen
    exact ⟨b, 0, hb.symm⟩
  · obtain ⟨b, c, hbc⟩ := List.length_eq_two.mp hlen
    exact ⟨b, c, hbc.symm⟩

/-- Settles O1: the operand bytes that follow the opcode byte are those `decode` takes, and `decodeBytes` reads the instruction from
them. -/
theorem decodeOfEncodeIsTheInstruction : Obligations.DecodeOfEncodeIsTheInstruction := by
  intro i hwf rest
  obtain ⟨b1, b2, hbytes⟩ := exists_take_eq_operandBytes i
  have hread : decodeBytes i.row.opcode b1 b2 = i := decodesAsItself i hwf b1 b2 hbytes
  have hlen : operandLengthOf i.row.opcode = i.row.mode.operandLength := by
    rw [operandLengthOf, ← decodeBytes_row _ b1 b2, hread]
  calc decode (encode i ++ rest)
      = decode (i.row.opcode :: ([b1, b2].take (operandLengthOf i.row.opcode) ++ rest)) := by rw [hlen, hbytes]; rfl
    _ = .ok (i, rest) := by rw [decode_operand_append, hread]

/-- The opcode map sends to `unknown` exactly the bytes of R120's list: all 256 bytes are compared. -/
theorem decodeBytes_zero_unknown_iff :
    ∀ op : Byte, (decodeBytes op 0 0).row.mnemonic = .UNKNOWN ↔ op ∈ unknownBytes := by
  decide +kernel

/-- The same whatever bytes follow, as they play no part in the row. -/
theorem decodeBytes_unknown_iff (op b1 b2 : Byte) :
    (decodeBytes op b1 b2).row.mnemonic = .UNKNOWN ↔ op ∈ unknownBytes := by
  rw [decodeBytes_row, decodeBytes_zero_unknown_iff]

/-- What the decoder reads is an instruction of the block: a known form, or the unknown opcode of a listed byte. -/
theorem decodeBytes_wf (op b1 b2 : Byte) : (decodeBytes op b1 b2).wf = true := by
  rcases decodeBytes_known_or_unknown op b1 b2 with hknown | hunknown
  · exact wf_of_known hknown
  · have hlisted : op ∈ unknownBytes := (decodeBytes_unknown_iff op b1 b2).mp (by rw [hunknown]; rfl)
    rw [hunknown]
    exact List.contains_iff_mem.mpr hlisted

/-- Settles O2: the opcode byte and the operand bytes of what was read are the bytes it was read from. -/
theorem decodedBytesEncodeBack : Obligations.DecodedBytesEncodeBack := by
  intro op b1 b2
  refine ⟨decodeBytes_wf op b1 b2, ?_⟩
  rw [encode, decodeBytes_opcode, decodeBytes_operandBytes, Nat.add_comm, List.take_succ_cons]

/-- Settles O3: the 256 bytes are compared with the list, and the list with itself. -/
theorem unknownOpcodesAreTheListedBytes : Obligations.UnknownOpcodesAreTheListedBytes :=
  ⟨decodeBytes_unknown_iff, by decide +kernel, rfl, rfl⟩

/-- Settles O4: each word is an opcode byte followed by the operand bytes of its mode. -/
theorem wordsFromTheListingDecode : Obligations.WordsFromTheListingDecode :=
  ⟨decode_one _ rfl rfl, decode_two _ rfl rfl, decode_none _ rfl rfl, decode_one _ rfl rfl, decode_two _ rfl rfl,
    decode_none _ rfl rfl, decode_one _ rfl rfl, decode_two _ rfl rfl, decode_two _ rfl rfl, decode_one _ rfl rfl,
    decode_none _ rfl rfl, decode_none _ rfl rfl, decode_none _ rfl rfl, decode_none _ rfl rfl⟩

end Sys2Proof
end

/-! # Addressing modes in numbers (30_encoding.md R104 to R113) -/

section

namespace Sys2Proof.Machine

theorem zext16_toNat (v : Byte) : (zext16 v).toNat = v.toNat :=
  BitVec.toNat_setWidth_of_le (by decide)

theorem zext16_eq_ofNat (v : Byte) : zext16 v = BitVec.ofNat 16 v.toNat :=
  (BitVec.ofNat_toNat 16 v).symm

/-- An indexed 16-bit address wraps modulo 65,536 (R108, R110). -/
theorem add_zext16_toNat (w : Word) (v : Byte) : (w + zext16 v).toNat = (w.toNat + v.toNat) % 65536 := by
  rw [BitVec.toNat_add, zext16_toNat]

/-- An indexed zero-page address wraps in page 0 (R106). -/
theorem zext16_add_toNat (z v : Byte) : (zext16 (z + v)).toNat = (z.toNat + v.toNat) % 256 := by
  rw [zext16_toNat, BitVec.toNat_add]

/-- Both bytes of a zero-page pointer lie in page 0 (R109, R110). -/
theorem zeroPagePointer_eq (s : State) (z : Byte) :
    zeroPagePointer s z =
      word (s.read (BitVec.ofNat 16 ((z.toNat + 1) % 256))) (s.read (BitVec.ofNat 16 z.toNat)) := by
  rw [zeroPagePointer, zext16_eq_ofNat, zext16_eq_ofNat, BitVec.toNat_add]
  rfl

/-- The bytes of a word lie at an address and the one after it, which wraps modulo 65,536 and not in its page (R111). -/
theorem readWord_eq (s : State) (w : Word) :
    s.readWord w = word (s.read (BitVec.ofNat 16 ((w.toNat + 1) % 65536))) (s.read w) := by
  have hnext : w + 1 = BitVec.ofNat 16 ((w.toNat + 1) % 65536) :=
    BitVec.eq_of_toNat_eq (by simp)
  rw [← hnext]
  rfl

/-- Settles O5: every sum and every pointer of `ea` in numbers, by the laws above. -/
theorem effectiveAddressOfEveryMode : Obligations.EffectiveAddressOfEveryMode := by
  intro s b w pointer
  have hpointer (p : Byte) {n : Nat} (hp : p.toNat = n % 256) : zeroPagePointer s p = pointer n := by
    rw [zeroPagePointer_eq, hp, Nat.mod_add_mod]
  have hb : b.toNat = b.toNat % 256 := (Nat.mod_eq_of_lt b.isLt).symm
  have hindirectY : (ea (.indirectY b) s).toNat = ((pointer b.toNat).toNat + s.cpu.y.toNat) % 65536 := by
    rw [← hpointer b hb]
    exact add_zext16_toNat _ _
  refine ⟨BitVec.toNat_add _ _, zext16_toNat b, zext16_add_toNat b _, zext16_add_toNat b _, rfl, add_zext16_toNat w _,
    add_zext16_toNat w _, hpointer _ (BitVec.toNat_add _ _), hindirectY, readWord_eq s w, rfl, ?_⟩
  intro o ho
  fin_cases ho <;> rfl

/-- The pages of two addresses differ when their high bytes do (00_scope.md R15). -/
theorem hi_bne_hi (a c : Word) : (hi a != hi c) = decide (a.toNat / 256 ≠ c.toNat / 256) := by
  rw [← hi_toNat, ← hi_toNat, Bool.eq_iff_iff, bne_iff_ne, decide_eq_true_iff, ne_eq, ne_eq, BitVec.toNat_inj]

/-- An index crosses a page when the base and the sum, wrapped modulo 65,536, lie on different pages (R108, R110). -/
theorem hi_bne_hi_add_zext16 (w : Word) (v : Byte) :
    (hi w != hi (w + zext16 v)) = decide (w.toNat / 256 ≠ (w.toNat + v.toNat) % 65536 / 256) := by
  rw [hi_bne_hi, add_zext16_toNat]

/-- Settles O6: in the three modes `crossed` compares the high bytes of the base and of the indexed sum. -/
theorem pageCrossedWhenHighBytesDiffer : Obligations.PageCrossedWhenHighBytesDiffer := by
  intro s b w
  refine ⟨hi_bne_hi_add_zext16 w _, hi_bne_hi_add_zext16 w _, ?_, ?_⟩
  · rw [← zeroPagePointer_eq]
    exact hi_bne_hi_add_zext16 _ _
  · intro o ho
    fin_cases ho <;> rfl

end Sys2Proof.Machine
end

/-! # The cycles of every instruction (40_execute_cycle.md R144, R147, R148, R155)

Every operation reports the `cycleCost` of its row. What a row can cost beyond its base is told by the row alone, so the bounds of
every instruction are a property of the opcode table. -/

section

namespace Sys2Proof.Machine

/-- The most cycles that taking a branch adds to the base cost, which only a branch has (44_control_flow.md R265 to R273). -/
def mostBranchExtra : Mnemonic → Nat
  | .BCC | .BCS | .BEQ | .BNE | .BMI | .BPL | .BVC | .BVS => 2
  | _ => 0

/-- The most that a page crossing and a taken branch add to the cost of a row (40_execute_cycle.md R147, R148). -/
def mostExtra (row : Row) : Nat := row.pagePenalty.toNat + mostBranchExtra row.mnemonic

theorem branchExtra_le_two (r : Byte) (s : State) : branchExtra r s ≤ 2 := by
  unfold branchExtra
  split <;> omega

theorem le_cycleCost (g : Config) (row : Row) (x : Bool) (k : Nat) :
    row.cycles.getD g.unknownOpcodeCycles ≤ cycleCost g row x k := by
  rw [cycleCost, Nat.add_assoc]
  exact Nat.le_add_right _ _

theorem cycleCost_le (g : Config) {row : Row} (x : Bool) {k : Nat} (hk : k ≤ mostBranchExtra row.mnemonic) :
    cycleCost g row x k ≤ row.cycles.getD g.unknownOpcodeCycles + mostExtra row := by
  have hx : (if row.pagePenalty && x then 1 else 0) ≤ row.pagePenalty.toNat := by
    cases row.pagePenalty <;> cases x <;> decide
  rw [cycleCost, mostExtra]
  omega

variable {i : Instr} {row : Row} {f : State → State}

/-- Every operation changes registers, flags and the bus alone, and reports the cost of its row, where only a branch adds cycles of
its own. -/
theorem Operation.frame (hf : Operation row f) (s : State) :
    ∃ x, ∃ k ≤ mostBranchExtra row.mnemonic,
      f s = { s with cpu := (f s).cpu, bus := (f s).bus, cycles := cycleCost s.config row x k } := by
  cases hf with
  | load => exact ⟨_, 0, Nat.zero_le _, by rw [load_eq]⟩
  | transfer => exact ⟨_, 0, Nat.zero_le _, by rw [transfer_eq]⟩
  | stepReg => exact ⟨_, 0, Nat.zero_le _, by rw [stepReg_eq]⟩
  | callTo => exact ⟨_, 0, Nat.zero_le _, by rw [callTo_eq]⟩
  | returnFromCall => exact ⟨_, 0, Nat.zero_le _, by rw [returnFromCall_eq]⟩
  | returnFromInterrupt => exact ⟨_, 0, Nat.zero_le _, by rw [returnFromInterrupt_eq]⟩
  | softwareInterrupt => exact ⟨false, 0, Nat.zero_le _, by rw [Machine.softwareInterrupt, enter_eq]⟩
  | branch cond r h =>
    refine ⟨_, _, ?_, by dsimp only; rw [branch_eq]⟩
    rw [(by decide : ∀ m ∈ [.BCC, .BCS, .BEQ, .BNE, .BMI, .BPL, .BVC, .BVS], mostBranchExtra m = 2) _ h]
    split
    · exact branchExtra_le_two r s
    · exact Nat.zero_le 2
  | store | transferToSp | adc | sbc | logic | compare | bitTest | shiftA | shiftMem | stepMem | jump | advance | pushA | pushP
  | pullA | pullP | writeC | writeI | writeD | writeV => exact ⟨_, 0, Nat.zero_le _, rfl⟩

/-- No operation feeds cycles or counts a tick. -/
theorem Operation.sched_eq (hf : Operation row f) (s : State) : (f s).sched = s.sched := by
  obtain ⟨_, _, -, he⟩ := hf.frame s
  rw [he]

/-- The rows of R125: a base cost of 2 or more, and a longest cost of 7 or less. -/
theorem known_row_cycles (h : i.row.mnemonic ≠ .UNKNOWN) :
    ∃ n, i.row.cycles = some n ∧ 2 ≤ n ∧ n + mostExtra i.row ≤ 7 := by
  cases i
  case unknown => exact absurd rfl h
  all_goals exact ⟨_, rfl, Nat.le_of_ble_eq_true rfl, Nat.le_of_ble_eq_true rfl⟩

/-- The row of an unknown opcode has no base cost of its own, and nothing is added to it (40_execute_cycle.md R144). -/
theorem unknown_row_cycles (h : i.row.mnemonic = .UNKNOWN) : i.row.cycles = none ∧ mostExtra i.row = 0 := by
  cases i
  case unknown => exact ⟨rfl, rfl⟩
  all_goals nomatch h

/-- An operation reports at least the base cost of its row, and at most that and what the row can cost beyond it. -/
theorem Operation.cycles_bounds (hf : Operation row f) (s : State) :
    row.cycles.getD s.config.unknownOpcodeCycles ≤ (f s).cycles ∧
      (f s).cycles ≤ row.cycles.getD s.config.unknownOpcodeCycles + mostExtra row := by
  obtain ⟨x, k, hk, he⟩ := hf.frame s
  have hc : (f s).cycles = cycleCost s.config row x k := by rw [he]
  rw [hc]
  exact ⟨le_cycleCost .., cycleCost_le _ _ hk⟩

theorem Operation.known_cycles (hf : Operation i.row f) (h : i.row.mnemonic ≠ .UNKNOWN) (s : State) :
    2 ≤ (f s).cycles ∧ (f s).cycles ≤ 7 := by
  obtain ⟨n, hn, hlo, hhi⟩ := known_row_cycles h
  have hb := hf.cycles_bounds s
  rw [hn, Option.getD_some] at hb
  omega

theorem Operation.unknown_cycles (hf : Operation i.row f) (h : i.row.mnemonic = .UNKNOWN) (s : State) :
    (f s).cycles = s.config.unknownOpcodeCycles := by
  obtain ⟨hn, h0⟩ := unknown_row_cycles h
  have hb := hf.cycles_bounds s
  rw [hn, h0, Option.getD_none] at hb
  omega

theorem Config.one_le_unknownOpcodeCycles {g : Config} (h : g.wf = true) : 1 ≤ g.unknownOpcodeCycles := by
  simp only [Config.wf, Bool.and_eq_true, decide_eq_true_eq] at h
  omega

/-- Settles O11: every instruction runs an operation, whose cycles are those of the instruction's row. -/
theorem everyInstructionCompletesInBoundedCycles : Obligations.EveryInstructionCompletesInBoundedCycles := by
  intro i s hs
  obtain ⟨f, hf, he⟩ := exec_operation i
  refine ⟨f s, he s, fun h => hf.known_cycles h s, fun h => ?_⟩
  rw [hf.unknown_cycles h]
  exact ⟨rfl, Config.one_le_unknownOpcodeCycles hs⟩

end Sys2Proof.Machine
end

/-! # Every tick (60_exceptions.md R330, R341, R342) -/

section

namespace Sys2Proof.Machine

variable (s : State)

/-! ## The scheduler and the launch parameters in each part of a tick -/

/-- A feed adds its cycles to the total (R342). -/
@[simp] theorem feed_sched (c : Nat) : (feed c s).sched = { s.sched with totalCycles := s.sched.totalCycles + c } := by
  rw [feed, audioAdvance_frame]
  exact ppuSteps_keeps (p := fun t => t.sched = { s.sched with totalCycles := s.sched.totalCycles + c }) _
    (fun t ht => (ppuStep_sched t).trans ht) _ rfl

@[simp] theorem feed_config (c : Nat) : (feed c s).config = s.config := by
  rw [feed, audioAdvance_frame]
  exact ppuSteps_keeps (p := fun t => t.config = s.config) _ (fun t ht => (ppuStep_config t).trans ht) _ rfl

theorem endTick_sched : (endTick s).sched = ⟨s.sched.totalCycles + s.cycles, s.sched.tickCount + 1⟩ := by
  simp [endTick]

@[simp] theorem enter_sched (ret : Word) (b : Bool) (vector : Word) (c : Nat) :
    (enter ret b vector c s).sched = s.sched := by
  rw [enter_eq]

@[simp] theorem enter_config (ret : Word) (b : Bool) (vector : Word) (c : Nat) :
    (enter ret b vector c s).config = s.config := by
  rw [enter_eq]

@[simp] theorem enter_cycles (ret : Word) (b : Bool) (vector : Word) (c : Nat) :
    (enter ret b vector c s).cycles = c := by
  rw [enter_eq]

/-- The start of a tick feeds the cycles of one entry, or none (R330, R341). -/
theorem takeInterrupt_sched :
    (takeInterrupt s).sched = { s.sched with
      totalCycles := s.sched.totalCycles + if s.nmiRequest ∨ irqAccepted s then entryCycles else 0 } := by
  by_cases hnmi : s.nmiRequest
  · simp [takeInterrupt, hnmi, nmiEntry]
  · by_cases hirq : irqAccepted s <;> simp [takeInterrupt, hnmi, hirq, irqEntry]

theorem takeInterrupt_config : (takeInterrupt s).config = s.config := by
  unfold takeInterrupt
  split_ifs <;> simp [nmiEntry, irqEntry]

/-- Before its instruction a tick feeds no more than one entry, and counts nothing yet. -/
theorem beginTick_sched :
    ∃ n ≤ entryCycles, (beginTick s).sched = { s.sched with totalCycles := s.sched.totalCycles + n } := by
  refine ⟨_, ?_, takeInterrupt_sched _⟩
  split
  · exact Nat.le_refl _
  · exact Nat.zero_le _

theorem beginTick_config : (beginTick s).config = s.config := takeInterrupt_config _

/-! ## The whole tick -/

/-- Every tick runs the operation of the instruction it fetches, and goes on. -/
theorem tick_operation :
    ∃ f, Operation (fetch (beginTick s)).row f ∧ tick s = .next (endTick (f (beginTick s))) := by
  obtain ⟨f, hf, he⟩ := exec_operation (fetch (beginTick s))
  exact ⟨f, hf, by rw [tick, he]⟩

/-- Settles O9: the total grows by the entry's cycles, if any, and by the instruction's. -/
theorem everyTickCountsAndAdvancesTime : Obligations.EveryTickCountsAndAdvancesTime := by
  intro s t hs ht
  obtain ⟨f, hf, he⟩ := tick_operation s
  obtain rfl : endTick (f (beginTick s)) = t := Host.Outcome.next.inj (he.symm.trans ht)
  obtain ⟨n, hn, hbegin⟩ := beginTick_sched s
  have hcycles : 0 < (f (beginTick s)).cycles ∧ (f (beginTick s)).cycles ≤ max 7 s.config.unknownOpcodeCycles := by
    by_cases h : (fetch (beginTick s)).row.mnemonic = .UNKNOWN
    · rw [hf.unknown_cycles h, beginTick_config]
      exact ⟨Config.one_le_unknownOpcodeCycles hs, le_max_right _ _⟩
    · obtain ⟨hlo, hhi⟩ := hf.known_cycles h (beginTick s)
      exact ⟨by omega, le_max_of_le_left hhi⟩
  rw [endTick_sched, hf.sched_eq, hbegin]
  unfold entryCycles at hn
  exact ⟨rfl, by dsimp only; omega, by dsimp only; omega⟩

/-- Settles O10: a turn of the emulation agent is a tick, and a turn of the callback agent cannot fail. -/
theorem everyStepAnswersANextState : Obligations.EveryStepAnswersANextState := by
  intro s
  have htick (u : State) : ∃ t, tick u = .next t := by
    obtain ⟨f, -, he⟩ := tick_operation u
    exact ⟨_, he⟩
  unfold step
  split
  · exact htick s
  · exact htick _
  · exact ⟨_, rfl⟩
  · exact ⟨_, rfl⟩

end Sys2Proof.Machine
end

/-! # A push and the pull after it (40_execute_cycle.md R150, R151) -/

section

namespace Sys2Proof.Machine

variable (v : Byte) (s : State)

/-- The pull reads the byte that the push wrote. -/
theorem pop_push_value (h : s.bus.wf = true) : (pop (push v s)).value = v := by
  simp only [push_eq, pop_value, sub_add_cancel]
  exact Memory.read_write_same h _ v

/-- SP is back where it was, at every SP; the byte stays on the bus. -/
theorem pop_push_state : (pop (push v s)).state = s.write (stackAddr s.cpu.sp) v := by
  simp only [push_eq, pop_state, sub_add_cancel]
  rfl

/-- Settles O34: a push and a pull write the one byte. -/
theorem pullAfterPushGivesTheByteBack : Obligations.PullAfterPushGivesTheByteBack := by
  intro s v h
  rw [pop_push_state]
  refine ⟨pop_push_value v s h, rfl, fun c hc => ?_⟩
  rw [inStackPage_eq] at hc
  exact Memory.read_write_other h hc v

end Sys2Proof.Machine
end

/-! # What a form leaves of the bus (20_memory.md R64, 41_load_store_transfer.md R170, 43_shift_incdec.md R230) -/

section

namespace Sys2Proof.Machine

open Sys2Proof.Claims

variable {row : Row} {f : State → State}

/-- The row is one of a form that stores: a shift or rotate does so only outside its accumulator form. -/
def WritesBus (row : Row) : Prop :=
  row.mnemonic ∈ storers ∧ (row.mnemonic ∈ shiftMnemonics → row.mode ≠ .accumulator)

theorem writesBus_of_mem {ms : List Mnemonic} (h : row.mnemonic ∈ ms)
    (hms : ∀ m ∈ ms, m ∈ storers ∧ m ∉ shiftMnemonics) : WritesBus row :=
  ⟨(hms _ h).1, fun hs => absurd hs (hms _ h).2⟩

/-- The bus stays as it is in every operation but those of the forms that store. -/
theorem Operation.bus_eq_or_writesBus (hf : Operation row f) (s : State) : (f s).bus = s.bus ∨ WritesBus row := by
  cases hf with
  | store h | stepMem h | callTo h | softwareInterrupt h | pushA h | pushP h => exact .inr (writesBus_of_mem h (by decide))
  | shiftMem h hm => exact .inr ⟨mem_of_listed h (by decide), fun _ => hm⟩
  | load => exact .inl (by rw [load_eq])
  | transfer => exact .inl (by rw [transfer_eq])
  | stepReg => exact .inl (by rw [stepReg_eq])
  | branch => exact .inl (by dsimp only; rw [branch_eq])
  | transferToSp | adc | sbc | logic | compare | bitTest | shiftA | jump | returnFromCall | returnFromInterrupt | advance
  | pullA | pullP | writeC | writeI | writeD | writeV => exact .inl rfl

/-- The accumulator mode is that of the shifts and rotates alone (30_encoding.md R103). -/
theorem shiftMnemonic_of_accumulator {i : Instr} (h : i.row.mode = .accumulator) : i.row.mnemonic ∈ shiftMnemonics := by
  cases i
  case aslAcc | lsrAcc | rolAcc | rorAcc => simp [Instr.row, shiftMnemonics]
  all_goals nomatch h

/-- Settles O41: an operation that changes the bus is one of a form that stores. -/
theorem formsThatStoreNothingKeepEveryByte : Obligations.FormsThatStoreNothingKeepEveryByte := by
  intro i s t h hi c
  obtain ⟨f, hf, rfl, -⟩ := operation_of_exec h
  rcases hf.bus_eq_or_writesBus s with hbus | ⟨hstorer, hmode⟩
  · rw [State.read, hbus, State.read]
  · rcases hi with hi | hi
    · exact absurd hstorer hi
    · exact absurd hi (hmode (shiftMnemonic_of_accumulator hi))

/-- A storing form stores one byte, at its effective address. -/
theorem storingForms_perform (s : State) (b : Byte) (w : Word) :
    ∀ f ∈ storingForms b w, ∃ v, Performs s (f.storing s v) := by
  simp only [storingForms, List.forall_mem_append, and_assoc]
  exact ⟨fun f hf => ⟨_, store_performs (staForms_runAs f hf)⟩,
    fun f hf => ⟨_, store_performs (stxForms_runAs f hf)⟩,
    fun f hf => ⟨_, store_performs (styForms_runAs f hf)⟩,
    fun f hf => ⟨_, shiftMem_performs (aslForms_runAs f hf) aslByte_writesNat⟩,
    fun f hf => ⟨_, shiftMem_performs (lsrForms_runAs f hf) lsrByte_writesNat⟩,
    fun f hf => ⟨_, shiftMem_performs (rolForms_runAs f hf) rolByte_writesNat⟩,
    fun f hf => ⟨_, shiftMem_performs (rorForms_runAs f hf) rorByte_writesNat⟩,
    fun f hf => ⟨_, stepMem_performs (incForms_runAs f hf)⟩,
    fun f hf => ⟨_, stepMem_performs (decForms_runAs f hf)⟩⟩

/-- What an instruction that performs its stores leaves at each address. -/
theorem Performs.read_eq {s t : State} {x : Storing} (hx : Performs s x) (h : s.bus.wf = true)
    (ht : exec x.instr s = .next t) (c : Word) : t.read c = byteAfter s x.stored c := by
  obtain ⟨u, hu, -, hbus⟩ := hx
  obtain rfl : u = t := Host.Outcome.next.inj (hu.symm.trans ht)
  rw [State.read, hbus, read_busAfter h]

/-- Settles O42: the byte at any other address is not among what was stored. -/
theorem storingFormsKeepEveryOtherByte : Obligations.StoringFormsKeepEveryOtherByte := by
  intro s t b w h f hf ht c hc
  obtain ⟨v, hv⟩ := storingForms_perform s b w f hf
  exact (hv.read_eq h ht c).trans (if_neg hc)

end Sys2Proof.Machine
end

/-! # Loads, stores and transfers (41_load_store_transfer.md R170 to R182) -/

section

namespace Sys2Proof.Machine

open Sys2Proof.Claims

/-! ## The ends of a step, as the listing gives them -/

/-- The model's `SetNZ` is that on numbers (40_execute_cycle.md R149). -/
theorem setNZ_eq_nz (v : Byte) (p : Flags) : setNZ v p = nz v p := by
  have hn : v.getLsbD 7 = decide (128 ≤ v.toNat) := BitVec.msb_eq_decide v
  have hz : (v == 0) = decide (v.toNat = 0) := by
    rw [Bool.eq_iff_iff, beq_iff_eq, decide_eq_true_iff, ← BitVec.toNat_inj]
    rfl
  rw [setNZ, nz, hn, hz]

/-- The row of the form's instruction has the form's opcode byte, base cost and mark "+1 if page crossed" (30_encoding.md R125). -/
structure Listed (f : Form) : Prop where
  opcode : f.instr.row.opcode = f.opcode
  cost : f.instr.row.cycles = some f.cost
  penalty : f.instr.row.pagePenalty = f.penalty

variable {f : Form} {s : State} {r : Reg}

/-- A listed form costs its base cycles, and one more on a crossed page when it is marked (R147, R148). -/
theorem Listed.cycleCost_eq (hl : Listed f) (g : Config) (x : Bool) :
    cycleCost g f.instr.row x 0 = f.cost + if f.penalty && x then 1 else 0 := by
  rw [cycleCost, hl.cost, hl.penalty]
  rfl

/-- The encoding of an instruction begins with the opcode byte of its row (30_encoding.md R100). -/
theorem runs_of_row {i : Instr} {op : Byte} {t : State} (hop : i.row.opcode = op) (he : exec i s = .next t) :
    Runs op i s t :=
  ⟨congrArg some hop, he⟩

/-- A row of one byte at `c` cycles with no mark costs `c` (30_encoding.md R119). -/
theorem cycleCost_eq_of_some {row : Row} {c : Nat} (hc : row.cycles = some c) (g : Config) :
    cycleCost g row false 0 = c := by
  rw [cycleCost, hc, Bool.and_false]
  rfl

/-! ## Loads -/

theorem load_runs (hf : RunsAs (load r) f) (hl : Listed f) :
    Runs f.opcode f.instr s (f.done s
      { (s.setReg r (value f.operand s)).cpu with p := nz (value f.operand s) s.cpu.p } s.bus) := by
  refine runs_of_row hl.opcode ?_
  rw [hf.exec, load_eq, hf.length, hl.cycleCost_eq, setNZ_eq_nz]
  rfl

section LoadForms

variable {b : Byte} {w : Word}

theorem ldaForms_runAs : ∀ f ∈ ldaForms b w, RunsAs (load .A) f := by
  intro f hf; fin_cases hf <;> exact ⟨rfl, fun _ => rfl⟩

theorem ldxForms_runAs : ∀ f ∈ ldxForms b w, RunsAs (load .X) f := by
  intro f hf; fin_cases hf <;> exact ⟨rfl, fun _ => rfl⟩

theorem ldyForms_runAs : ∀ f ∈ ldyForms b w, RunsAs (load .Y) f := by
  intro f hf; fin_cases hf <;> exact ⟨rfl, fun _ => rfl⟩

theorem loadForms_listed : ∀ f ∈ ldaForms b w ++ ldxForms b w ++ ldyForms b w, Listed f := by
  intro f hf; fin_cases hf <;> exact ⟨rfl, rfl, rfl⟩

end LoadForms

/-- Settles O13: every form is a load of its register, with the row of the listing. -/
theorem loadsSetRegisterAndNZ : Obligations.LoadsSetRegisterAndNZ := by
  intro s b w
  have hlisted := loadForms_listed (b := b) (w := w)
  simp only [List.forall_mem_append, and_assoc] at hlisted
  obtain ⟨hlda, hldx, hldy⟩ := hlisted
  exact ⟨fun f hf => load_runs (ldaForms_runAs f hf) (hlda f hf),
    fun f hf => load_runs (ldxForms_runAs f hf) (hldx f hf),
    fun f hf => load_runs (ldyForms_runAs f hf) (hldy f hf)⟩

/-! ## Stores -/

theorem store_runs (hf : RunsAs (store r) f) (hl : Listed f) :
    Runs f.opcode f.instr s (f.done s s.cpu (s.bus.write (ea f.operand s) (s.reg r))) := by
  refine runs_of_row hl.opcode ?_
  rw [hf.exec, store_eq, hf.length, hl.cycleCost_eq]
  rfl

/-- The cost of a store is fixed: no form has the mark (41_load_store_transfer.md R174 to R176). -/
theorem storeForms_listed {b : Byte} {w : Word} :
    ∀ f ∈ staForms b w ++ stxForms b w ++ styForms b w, Listed f ∧ f.penalty = false := by
  intro f hf; fin_cases hf <;> exact ⟨⟨rfl, rfl, rfl⟩, rfl⟩

/-- Settles O14: every form is a store of its register, with the row of the listing, which has no mark. -/
theorem storesWriteRegisterAtEffectiveAddress : Obligations.StoresWriteRegisterAtEffectiveAddress := by
  intro s b w
  have hlisted := storeForms_listed (b := b) (w := w)
  simp only [List.forall_mem_append, and_assoc] at hlisted
  obtain ⟨hsta, hstx, hsty⟩ := hlisted
  exact ⟨fun f hf => ⟨store_runs (staForms_runAs f hf) (hsta f hf).1, (hsta f hf).2⟩,
    fun f hf => ⟨store_runs (stxForms_runAs f hf) (hstx f hf).1, (hstx f hf).2⟩,
    fun f hf => ⟨store_runs (styForms_runAs f hf) (hsty f hf).1, (hsty f hf).2⟩⟩

/-! ## Transfers -/

theorem transfer_runs {i : Instr} {op : Byte} {c : Nat} (src dst : Reg) (he : exec i s = .next (transfer src dst i.row s))
    (hop : i.row.opcode = op) (hlen : i.row.mode.operandLength = 0) (hc : i.row.cycles = some c) :
    Runs op i s (done1 s { (s.setReg dst (s.reg src)).cpu with p := nz (s.reg src) s.cpu.p } s.bus c) := by
  refine runs_of_row hop ?_
  rw [he, transfer_eq, hlen, cycleCost_eq_of_some hc, setNZ_eq_nz]
  rfl

/-- Settles O15: the first five are transfers that set N and Z; TXS writes SP alone. -/
theorem transfersCopyRegister : Obligations.TransfersCopyRegister := by
  intro s
  have htxs : exec .txs s = .next (done1 s { s.cpu with sp := s.cpu.x } s.bus 2) :=
    congrArg Host.Outcome.next (transferToSp_eq s Instr.txs.row)
  exact ⟨transfer_runs .A .X rfl rfl rfl rfl, transfer_runs .A .Y rfl rfl rfl rfl, transfer_runs .X .A rfl rfl rfl rfl,
    transfer_runs .Y .A rfl rfl rfl rfl, transfer_runs .SP .X rfl rfl rfl rfl, runs_of_row rfl htxs⟩

end Sys2Proof.Machine
end

/-! # Arithmetic, logic, compare and bit test (42_arith_logic.md R200 to R210)

`AddWithCarry` and `Compare` are first read on numbers. SBC is the ADC of the complement, so its numbers are those of that sum.
Every form of the family then ends as the listing says, by one lemma an operation. -/

section

namespace Sys2Proof.Machine

open Sys2Proof.Claims

/-! ## AddWithCarry on numbers -/

theorem c01_eq_toNat (p : Flags) : c01 p = p.c.toNat := (Bool.cond_eq_ite ..).symm

theorem and_0x80_bne_zero (v : Byte) : (v &&& 0x80 != 0) = v.msb := by
  revert v; decide

/-- R200's test, "both addends differ in sign from the result", finds the signed sums out of range. -/
theorem addWithCarry_ovf (a m : Byte) (c : Bool) :
    (addWithCarry a m c).ovf = decide (a.toInt + m.toInt + c.toNat < -128 ∨ 127 < a.toInt + m.toInt + c.toNat) := by
  have ha := a.isLt
  have hm := m.isLt
  have hc := c.toNat_le
  rw [Bool.eq_iff_iff, decide_eq_true_iff]
  simp only [addWithCarry, and_0x80_bne_zero, BitVec.msb_and, BitVec.msb_xor, Bool.and_eq_true, Bool.xor_iff_ne]
  simp only [BitVec.msb_eq_decide, ne_eq, decide_eq_decide, BitVec.toNat_ofNat, BitVec.toInt_eq_toNat_cond]
  omega

theorem afterAdc_eq (m : Byte) (cpu : Cpu) :
    afterAdc m cpu =
      let t := addWithCarry cpu.a m cpu.p.c
      { cpu with a := t.result, p := sumFlags t cpu.p } := by
  have hr (n : Nat) : BitVec.ofNat 8 (n % 256) = BitVec.ofNat 8 n := BitVec.eq_of_toNat_eq (by simp)
  simp only [afterAdc, sumFlags, setNZ_eq_nz, addWithCarry_ovf, c01_eq_toNat, hr]
  rfl

/-! ## SBC is ADC of the complement (R202) -/

theorem xor_0xFF_toNat (m : Byte) : (m ^^^ 0xFF).toNat = 255 - m.toNat :=
  (congrArg BitVec.toNat (BitVec.xor_allOnes (x := m))).trans BitVec.toNat_not

theorem xor_0xFF_toInt (m : Byte) : (m ^^^ 0xFF).toInt = -1 - m.toInt := by
  have hm := m.isLt
  rw [BitVec.toInt_eq_toNat_cond, BitVec.toInt_eq_toNat_cond, xor_0xFF_toNat]
  omega

/-- The complement is `255 - M` unsigned and `-1 - M` signed, so the sum with it is the difference, 256 higher when unsigned. -/
theorem afterSbc_eq_afterAdc (m : Byte) (cpu : Cpu) : afterSbc m cpu = afterAdc (m ^^^ 0xFF) cpu := by
  have hc := c01_le_one cpu.p
  have hm := m.isLt
  have hresult : BitVec.ofInt 8 ((cpu.a.toNat : Int) - m.toNat - (1 - c01 cpu.p : Nat)) =
      BitVec.ofNat 8 ((cpu.a.toNat + (255 - m.toNat) + c01 cpu.p) % 256) := by
    apply BitVec.eq_of_toNat_eq
    rw [BitVec.toNat_ofInt, BitVec.toNat_ofNat]
    omega
  have hcarry : m.toNat + (1 - c01 cpu.p) ≤ cpu.a.toNat ↔ 255 < cpu.a.toNat + (255 - m.toNat) + c01 cpu.p := by omega
  have hsigned : cpu.a.toInt - m.toInt - (1 - c01 cpu.p : Nat) = cpu.a.toInt + (-1 - m.toInt) + c01 cpu.p := by omega
  simp only [afterSbc, afterAdc, xor_0xFF_toNat, xor_0xFF_toInt, hresult, hcarry, hsigned]

/-! ## Compare and the bit test on numbers -/

theorem compareFlags_eq_afterCompare (r m : Byte) (p : Flags) : compareFlags r m p = afterCompare r m p := by
  have hz : decide ((r - m).toNat = 0) = decide (r = m) := decide_eq_decide.mpr (by bv_omega)
  have hn : decide (128 ≤ (r - m).toNat) = decide (128 ≤ ((r.toNat : Int) - m.toNat) % 256) :=
    decide_eq_decide.mpr (by bv_omega)
  rw [compareFlags, setNZ_eq_nz, nz, hz, hn]
  rfl

theorem bitFlags_eq (a m : Byte) (p : Flags) :
    bitFlags a m p = { p with
      z := decide (a &&& m = 0)
      n := decide (m.toNat / 128 % 2 = 1)
      v := decide (m.toNat / 64 % 2 = 1) } := by
  simp only [bitFlags, BitVec.getLsbD, Nat.testBit_eq_decide_div_mod_eq]
  rfl

/-! ## The ends of the operations -/

variable {f : Form} {s : State} {b : Byte} {w : Word}

/-- A listed form whose operation writes the registers `cpu` and then advances ends as the listing says (R146, R147). -/
theorem runs_of_advance {g : Row → Operand → State → State} (hf : RunsAs g f ∧ Listed f) {cpu : Cpu}
    (hg : g f.instr.row f.operand s = { s with
      cpu := { cpu with pc := s.cpu.pc + BitVec.ofNat 16 (1 + f.instr.row.mode.operandLength) }
      cycles := cycleCost s.config f.instr.row (crossed f.operand s) 0 }) :
    Runs f.opcode f.instr s (f.done s cpu s.bus) := by
  obtain ⟨hrun, hlisted⟩ := hf
  refine runs_of_row hlisted.opcode ?_
  rw [hrun.exec, hg, hrun.length, hlisted.cycleCost_eq]
  rfl

theorem adc_runs (hf : RunsAs adc f ∧ Listed f) :
    Runs f.opcode f.instr s (f.done s (afterAdc (value f.operand s) s.cpu) s.bus) :=
  runs_of_advance hf (by rw [adc_eq, afterAdc_eq])

theorem sbc_runs (hf : RunsAs sbc f ∧ Listed f) :
    Runs f.opcode f.instr s (f.done s (afterSbc (value f.operand s) s.cpu) s.bus) :=
  runs_of_advance hf (by rw [sbc_eq, afterSbc_eq_afterAdc, afterAdc_eq])

theorem logic_runs {g : Byte → Byte → Byte} (hf : RunsAs (logic g) f ∧ Listed f) :
    Runs f.opcode f.instr s (f.done s
      { s.cpu with a := g s.cpu.a (value f.operand s), p := nz (g s.cpu.a (value f.operand s)) s.cpu.p } s.bus) :=
  runs_of_advance hf (by rw [logic_eq, setNZ_eq_nz])

theorem compareReg_runs {r : Reg} (hf : RunsAs (compareReg r) f ∧ Listed f) :
    Runs f.opcode f.instr s (f.done s { s.cpu with p := afterCompare (s.reg r) (value f.operand s) s.cpu.p } s.bus) :=
  runs_of_advance hf (by rw [compareReg_eq, compareFlags_eq_afterCompare])

theorem bitTest_runs (hf : RunsAs bitTest f ∧ Listed f) :
    Runs f.opcode f.instr s (f.done s
      { s.cpu with
        p := { s.cpu.p with
          z := decide (s.cpu.a &&& value f.operand s = 0)
          n := decide ((value f.operand s).toNat / 128 % 2 = 1)
          v := decide ((value f.operand s).toNat / 64 % 2 = 1) } } s.bus) :=
  runs_of_advance hf (by rw [bitTest_eq, bitFlags_eq])

/-! ## The forms, with the rows of the listing (30_encoding.md R125) -/

theorem adcForms_runAs_listed : ∀ f ∈ adcForms b w, RunsAs adc f ∧ Listed f := by
  intro f hf; fin_cases hf <;> exact ⟨⟨rfl, fun _ => rfl⟩, rfl, rfl, rfl⟩

theorem sbcForms_runAs_listed : ∀ f ∈ sbcForms b w, RunsAs sbc f ∧ Listed f := by
  intro f hf; fin_cases hf <;> exact ⟨⟨rfl, fun _ => rfl⟩, rfl, rfl, rfl⟩

theorem andForms_runAs_listed : ∀ f ∈ andForms b w, RunsAs (logic (· &&& ·)) f ∧ Listed f := by
  intro f hf; fin_cases hf <;> exact ⟨⟨rfl, fun _ => rfl⟩, rfl, rfl, rfl⟩

theorem oraForms_runAs_listed : ∀ f ∈ oraForms b w, RunsAs (logic (· ||| ·)) f ∧ Listed f := by
  intro f hf; fin_cases hf <;> exact ⟨⟨rfl, fun _ => rfl⟩, rfl, rfl, rfl⟩

theorem eorForms_runAs_listed : ∀ f ∈ eorForms b w, RunsAs (logic (· ^^^ ·)) f ∧ Listed f := by
  intro f hf; fin_cases hf <;> exact ⟨⟨rfl, fun _ => rfl⟩, rfl, rfl, rfl⟩

theorem cmpForms_runAs_listed : ∀ f ∈ cmpForms b w, RunsAs (compareReg .A) f ∧ Listed f := by
  intro f hf; fin_cases hf <;> exact ⟨⟨rfl, fun _ => rfl⟩, rfl, rfl, rfl⟩

theorem cpxForms_runAs_listed : ∀ f ∈ cpxForms b w, RunsAs (compareReg .X) f ∧ Listed f := by
  intro f hf; fin_cases hf <;> exact ⟨⟨rfl, fun _ => rfl⟩, rfl, rfl, rfl⟩

theorem cpyForms_runAs_listed : ∀ f ∈ cpyForms b w, RunsAs (compareReg .Y) f ∧ Listed f := by
  intro f hf; fin_cases hf <;> exact ⟨⟨rfl, fun _ => rfl⟩, rfl, rfl, rfl⟩

theorem bitForms_runAs_listed : ∀ f ∈ bitForms b w, RunsAs bitTest f ∧ Listed f := by
  intro f hf; fin_cases hf <;> exact ⟨⟨rfl, fun _ => rfl⟩, rfl, rfl, rfl⟩

/-! ## The statements -/

/-- Settles O16: every form is an ADC, whose sum is read on numbers unsigned and signed. -/
theorem adcAddsWithCarryAndSignedOverflow : Obligations.AdcAddsWithCarryAndSignedOverflow :=
  fun _ _ _ f hf => adc_runs (adcForms_runAs_listed f hf)

/-- Settles O17: every form is an SBC, the sum with the complement of M. -/
theorem sbcSubtractsWithBorrow : Obligations.SbcSubtractsWithBorrow :=
  fun _ _ _ f hf => sbc_runs (sbcForms_runAs_listed f hf)

/-- Settles O18: the three mnemonics are one operation, at three functions of A and M. -/
theorem logicCombinesAWithOperand : Obligations.LogicCombinesAWithOperand := fun _ _ _ =>
  ⟨fun f hf => logic_runs (andForms_runAs_listed f hf), fun f hf => logic_runs (oraForms_runAs_listed f hf),
    fun f hf => logic_runs (eorForms_runAs_listed f hf)⟩

/-- Settles O19: the three mnemonics are one operation, at three registers. -/
theorem comparesSetZCNOnly : Obligations.ComparesSetZCNOnly := fun _ _ _ =>
  ⟨fun f hf => compareReg_runs (r := .A) (cmpForms_runAs_listed f hf),
    fun f hf => compareReg_runs (r := .X) (cpxForms_runAs_listed f hf),
    fun f hf => compareReg_runs (r := .Y) (cpyForms_runAs_listed f hf)⟩

/-- Settles O20: both forms are bit tests, whose flags are read on numbers. -/
theorem bitTestTakesNAndVFromMemory : Obligations.BitTestTakesNAndVFromMemory :=
  fun _ _ _ f hf => bitTest_runs (bitForms_runAs_listed f hf)

end Sys2Proof.Machine
end

/-! # Shifts, rotates, increments and decrements (43_shift_incdec.md R230 to R240)

A shift is first read on numbers, its byte by `WritesNat` and its carry here; an increment or decrement is by `add_ofNat_eq_plus`.
Every form of the family then ends as the listing says, by one lemma an operation. -/

section

namespace Sys2Proof.Machine

open Sys2Proof.Claims

/-! ## A shift on numbers -/

/-- The shift `g` writes the byte, and shifts out the carry, that `n` gives on numbers. -/
structure ShiftsNat (g : Byte → Bool → Shifted) (n : Nat → Nat → Nat × Bool) : Prop where
  writes : WritesNat g n
  carries : ∀ (v : Byte) (p : Flags), (g v p.c).carry = (n v.toNat (c01 p)).2

theorem aslByte_shiftsNat : ShiftsNat aslByte aslNat := ⟨aslByte_writesNat, fun v _ => BitVec.msb_eq_decide v⟩

theorem lsrByte_shiftsNat : ShiftsNat lsrByte lsrNat := ⟨lsrByte_writesNat, fun v _ => Nat.testBit_zero v.toNat⟩

theorem rolByte_shiftsNat : ShiftsNat rolByte rolNat := ⟨rolByte_writesNat, fun v _ => BitVec.msb_eq_decide v⟩

theorem rorByte_shiftsNat : ShiftsNat rorByte rorNat := ⟨rorByte_writesNat, fun v _ => Nat.testBit_zero v.toNat⟩

variable {g : Byte → Bool → Shifted} {n : Nat → Nat → Nat × Bool}

theorem ShiftsNat.shiftFlags_eq (hg : ShiftsNat g n) (v : Byte) (p : Flags) :
    shiftFlags (g v p.c) p = afterShift n v p := by
  rw [shiftFlags, setNZ_eq_nz, hg.writes, hg.carries]
  rfl

/-! ## The forms that write back to memory -/

variable {f : Form} {s : State} {b : Byte} {w : Word}

theorem shiftMem_runs (hg : ShiftsNat g n) (hf : RunsAs (shiftMem g) f) (hl : Listed f) :
    Runs f.opcode f.instr s (f.done s
      { s.cpu with p := afterShift n (s.read (ea f.operand s)) s.cpu.p }
      (s.bus.write (ea f.operand s) (shiftedByte n (s.read (ea f.operand s)) s.cpu.p))) := by
  refine runs_of_row hl.opcode ?_
  rw [hf.exec, shiftMem_eq, hg.shiftFlags_eq, hg.writes, hf.length, hl.cycleCost_eq]
  rfl

theorem stepMem_runs {k : Nat} (hf : RunsAs (stepMem (BitVec.ofNat 8 k)) f) (hl : Listed f) :
    Runs f.opcode f.instr s (f.done s
      { s.cpu with p := nz (plus (s.read (ea f.operand s)) k) s.cpu.p }
      (s.bus.write (ea f.operand s) (plus (s.read (ea f.operand s)) k))) := by
  refine runs_of_row hl.opcode ?_
  rw [hf.exec, stepMem_eq, setNZ_eq_nz, add_ofNat_eq_plus, hf.length, hl.cycleCost_eq]
  rfl

/-- The rows of the shifts and rotates in memory are those of the listing (30_encoding.md R125). -/
theorem shiftForms_listed : ∀ f ∈ aslForms b w ++ lsrForms b w ++ rolForms b w ++ rorForms b w, Listed f := by
  intro f hf; fin_cases hf <;> exact ⟨rfl, rfl, rfl⟩

/-- The rows of INC and DEC are those of the listing (30_encoding.md R125). -/
theorem stepForms_listed : ∀ f ∈ incForms b w ++ decForms b w, Listed f := by
  intro f hf; fin_cases hf <;> exact ⟨rfl, rfl, rfl⟩

/-! ## The forms of one byte -/

variable {i : Instr} {op : Byte} {c : Nat}

theorem shiftA_runs (hg : ShiftsNat g n) (he : exec i s = .next (shiftA g i.row s))
    (hop : i.row.opcode = op) (hlen : i.row.mode.operandLength = 0) (hcycles : i.row.cycles = some c) :
    Runs op i s (done1 s
      { s.cpu with a := shiftedByte n s.cpu.a s.cpu.p, p := afterShift n s.cpu.a s.cpu.p } s.bus c) := by
  refine runs_of_row hop ?_
  rw [he, shiftA_eq, hg.shiftFlags_eq, hg.writes, hlen, cycleCost_eq_of_some hcycles]
  rfl

theorem stepReg_runs (r : Reg) (k : Nat) (he : exec i s = .next (stepReg r (BitVec.ofNat 8 k) i.row s))
    (hop : i.row.opcode = op) (hlen : i.row.mode.operandLength = 0) (hcycles : i.row.cycles = some c) :
    Runs op i s (done1 s
      { (s.setReg r (plus (s.reg r) k)).cpu with p := nz (plus (s.reg r) k) s.cpu.p } s.bus c) := by
  refine runs_of_row hop ?_
  rw [he, stepReg_eq, setNZ_eq_nz, add_ofNat_eq_plus, hlen, cycleCost_eq_of_some hcycles]
  rfl

/-! ## The statements -/

/-- Settles O21: the accumulator forms and the memory forms shift one byte the same way, which is read on numbers. -/
theorem shiftsOfAccumulatorAndMemory : Obligations.ShiftsOfAccumulatorAndMemory := by
  intro s b w
  have hlisted := shiftForms_listed (b := b) (w := w)
  simp only [List.forall_mem_append, and_assoc] at hlisted
  obtain ⟨hasl, hlsr, hrol, hror⟩ := hlisted
  exact ⟨shiftA_runs aslByte_shiftsNat rfl rfl rfl rfl,
    shiftA_runs lsrByte_shiftsNat rfl rfl rfl rfl,
    shiftA_runs rolByte_shiftsNat rfl rfl rfl rfl,
    shiftA_runs rorByte_shiftsNat rfl rfl rfl rfl,
    fun f hf => shiftMem_runs aslByte_shiftsNat (aslForms_runAs f hf) (hasl f hf),
    fun f hf => shiftMem_runs lsrByte_shiftsNat (lsrForms_runAs f hf) (hlsr f hf),
    fun f hf => shiftMem_runs rolByte_shiftsNat (rolForms_runAs f hf) (hrol f hf),
    fun f hf => shiftMem_runs rorByte_shiftsNat (rorForms_runAs f hf) (hror f hf)⟩

/-- Settles O22: INC adds 1 and DEC adds 255, which is subtracting 1 modulo 256. -/
theorem incAndDecOfMemory : Obligations.IncAndDecOfMemory := by
  intro s b w
  obtain ⟨hinc, hdec⟩ := List.forall_mem_append.mp (stepForms_listed (b := b) (w := w))
  exact ⟨fun f hf => stepMem_runs (incForms_runAs f hf) (hinc f hf),
    fun f hf => stepMem_runs (decForms_runAs f hf) (hdec f hf)⟩

/-- Settles O23: the four instructions step X or Y by 1 or by 255. -/
theorem incAndDecOfRegisters : Obligations.IncAndDecOfRegisters := fun _ =>
  ⟨stepReg_runs .X 1 rfl rfl rfl rfl, stepReg_runs .Y 1 rfl rfl rfl rfl, stepReg_runs .X 255 rfl rfl rfl rfl,
    stepReg_runs .Y 255 rfl rfl rfl rfl⟩

end Sys2Proof.Machine
end

/-! # Control transfer (44_control_flow.md R260 to R274)

Each operation ends as its `_eq` law says; what is left for an instruction is its row. JSR and RTS, and BRK and RTI, meet on the
stack: what the one pushes the other pulls. -/

section

namespace Sys2Proof.Machine

open Sys2Proof.Claims

variable {i : Instr} {op : Byte} {c : Nat} {s t : State}

/-! ## NOP and the unknown opcodes -/

/-- An instruction of one byte that only advances ends past its byte, at the cost of its row. -/
theorem advance_runs (he : exec i s = .next (advance i.row false s)) (hop : i.row.opcode = op)
    (hlen : i.row.mode.operandLength = 0) : Runs op i s (done1 s s.cpu s.bus (cycleCost s.config i.row false 0)) := by
  refine runs_of_row hop ?_
  rw [he, advance_eq, hlen]
  rfl

/-- The cost of an unknown opcode is the launch parameter (40_execute_cycle.md R144). -/
theorem cycleCost_unknown (g : Config) : cycleCost g (Instr.unknown op).row false 0 = g.unknownOpcodeCycles := rfl

/-- Settles O12: both only advance, and differ in the cost of their rows. -/
theorem nopAndUnknownOpcodesOnlyAdvance : Obligations.NopAndUnknownOpcodesOnlyAdvance := by
  intro s op
  have hnop := advance_runs (i := .nop) (s := s) rfl rfl rfl
  have hunknown := advance_runs (i := .unknown op) (s := s) rfl rfl rfl
  rw [cycleCost_eq_of_some rfl] at hnop
  rw [cycleCost_unknown] at hunknown
  exact ⟨hnop, hunknown⟩

/-! ## Jumps -/

/-- An instruction that redirects, at the cost of its row. -/
theorem runs_of_goTo {cpu : Cpu} {bus : Memory} {target : Word}
    (he : exec i s = .next (goTo s cpu bus target (cycleCost s.config i.row false 0))) (hop : i.row.opcode = op)
    (hc : i.row.cycles = some c) : Runs op i s (goTo s cpu bus target c) := by
  rw [cycleCost_eq_of_some hc] at he
  exact runs_of_row hop he

theorem jump_runs {o : Operand} (he : exec i s = .next (jump i.row o s)) (hop : i.row.opcode = op)
    (hc : i.row.cycles = some c) : Runs op i s (goTo s s.cpu s.bus (ea o s) c) :=
  runs_of_goTo (by rw [he, jump_eq]; rfl) hop hc

/-- Settles O24: both forms jump to their effective address, for the second the word at the operand. -/
theorem jmpGoesToEffectiveAddress : Obligations.JmpGoesToEffectiveAddress := by
  intro s w
  have hnext : BitVec.ofNat 16 (w.toNat + 1) = w + 1 := BitVec.eq_of_toNat_eq (by simp)
  rw [hnext]
  exact ⟨jump_runs (o := .absolute w) rfl rfl rfl, jump_runs (o := .indirect w) rfl rfl rfl⟩

/-! ## JSR and RTS -/

theorem callTo_runs {o : Operand} (he : exec i s = .next (callTo i.row o s)) (hop : i.row.opcode = op)
    (hc : i.row.cycles = some c) :
    Runs op i s (goTo s { s.cpu with sp := s.cpu.sp - 2 }
      ((s.bus.write (inStackPage s.cpu.sp) (hi (s.cpu.pc + 2))).write (inStackPage (s.cpu.sp - 1)) (lo (s.cpu.pc + 2)))
      (ea o s) c) :=
  runs_of_goTo (by rw [he, callTo_eq, inStackPage_eq, inStackPage_eq]; rfl) hop hc

/-- Settles O25: JSR is the call of its operand. -/
theorem jsrPushesReturnAddressMinusOne : Obligations.JsrPushesReturnAddressMinusOne :=
  fun _ w => callTo_runs (o := .absolute w) rfl rfl rfl

/-- The two bytes of a word that a push of it left at and below SP value `sp` (40_execute_cycle.md R152). -/
theorem read_two_pushes {m : Memory} (h : m.wf = true) (sp x y : Byte) :
    ((m.write (stackAddr sp) x).write (stackAddr (sp - 1)) y).read (stackAddr sp) = x ∧
    ((m.write (stackAddr sp) x).write (stackAddr (sp - 1)) y).read (stackAddr (sp - 1)) = y := by
  have h1 := Memory.write_wf h (stackAddr sp) x
  have hne : stackAddr sp ≠ stackAddr (sp - 1) := by rw [ne_eq, stackAddr_inj]; bv_omega
  exact ⟨by rw [Memory.read_write_other h1 hne, Memory.read_write_same h], Memory.read_write_same h1 _ _⟩

/-- What a return finds on the stack of a call is the address of the call's last byte (R262). -/
theorem returnFromCall_callTo_cpu (h : s.bus.wf = true) (row row' : Row) (o : Operand) :
    (returnFromCall row' (callTo row o s)).cpu = { s.cpu with pc := s.cpu.pc + 3 } := by
  obtain ⟨hhi, hlo⟩ := read_two_pushes h s.cpu.sp (hi (s.cpu.pc + 2)) (lo (s.cpu.pc + 2))
  have hsp2 : s.cpu.sp - 2 + 2 = s.cpu.sp := sub_add_cancel _ _
  have hsp1 : s.cpu.sp - 2 + 1 = s.cpu.sp - 1 := by bv_omega
  have hpc : s.cpu.pc + 2 + 1 = s.cpu.pc + 3 := by bv_omega
  simp only [returnFromCall_eq, callTo_eq, hsp2, hsp1, hhi, hlo, word_hi_lo, hpc]

/-- Settles O26: RTS is the return, and after the call of JSR it finds what that pushed. -/
theorem rtsGoesToPulledAddressPlusOne : Obligations.RtsGoesToPulledAddressPlusOne := by
  refine ⟨fun s => ?_, fun s t u w h ht hu => ?_⟩
  · rw [inStackPage_eq, inStackPage_eq]
    exact runs_of_goTo (congrArg Host.Outcome.next (returnFromCall_eq s Instr.rts.row)) rfl rfl
  · obtain rfl : callTo (Instr.jsr w).row (.absolute w) s = t := Host.Outcome.next.inj ht
    obtain rfl : returnFromCall Instr.rts.row _ = u := Host.Outcome.next.inj hu
    exact returnFromCall_callTo_cpu h _ _ _

/-! ## RTI and BRK -/

/-- Settles O27: RTI is the return from an interrupt, and unpacks the status it pulled. -/
theorem rtiRestoresStatusAndAddress : Obligations.RtiRestoresStatusAndAddress := by
  intro s
  simp only [inStackPage_eq]
  exact runs_of_goTo (congrArg Host.Outcome.next (returnFromInterrupt_eq s Instr.rti.row)) rfl rfl

/-- `t` has the SP and the three stack bytes that an entry from `s` with the return address `ret` and B as given left
(60_exceptions.md R330). -/
structure HoldsFrame (s t : State) (ret : Word) (b : Bool) : Prop where
  sp : t.cpu.sp = s.cpu.sp - 3
  high : t.bus.read (stackAddr s.cpu.sp) = hi ret
  low : t.bus.read (stackAddr (s.cpu.sp - 1)) = lo ret
  status : t.bus.read (stackAddr (s.cpu.sp - 2)) = packP b s.cpu.p

/-- An entry leaves its frame: the last push is to a third byte. -/
theorem enter_holdsFrame (h : s.bus.wf = true) (ret : Word) (b : Bool) (vector : Word) (c : Nat) :
    HoldsFrame s (enter ret b vector c s) ret b := by
  have h2 := Memory.write_wf (Memory.write_wf h (stackAddr s.cpu.sp) (hi ret)) (stackAddr (s.cpu.sp - 1)) (lo ret)
  have hne0 : stackAddr s.cpu.sp ≠ stackAddr (s.cpu.sp - 2) := by rw [ne_eq, stackAddr_inj]; bv_omega
  have hne1 : stackAddr (s.cpu.sp - 1) ≠ stackAddr (s.cpu.sp - 2) := by rw [ne_eq, stackAddr_inj]; bv_omega
  obtain ⟨hhi, hlo⟩ := read_two_pushes h s.cpu.sp (hi ret) (lo ret)
  rw [enter_eq]
  exact ⟨rfl, (Memory.read_write_other h2 hne0 _).trans hhi, (Memory.read_write_other h2 hne1 _).trans hlo,
    Memory.read_write_same h2 _ _⟩

/-- The return from an interrupt takes the pc, P and SP from the frame, whatever B was (R263, 60_exceptions.md R333). -/
theorem HoldsFrame.returnFromInterrupt_eq {ret : Word} {b : Bool} (hf : HoldsFrame s t ret b) (row : Row) :
    returnFromInterrupt row t = { t with
      cpu := { t.cpu with pc := ret, sp := s.cpu.sp, p := s.cpu.p }, cycles := cycleCost t.config row false 0 } := by
  have hsp3 : s.cpu.sp - 3 + 3 = s.cpu.sp := sub_add_cancel _ _
  have hsp2 : s.cpu.sp - 3 + 2 = s.cpu.sp - 1 := by bv_omega
  have hsp1 : s.cpu.sp - 3 + 1 = s.cpu.sp - 2 := by bv_omega
  rw [Machine.returnFromInterrupt_eq, hf.sp, hsp3, hsp2, hsp1, hf.high, hf.low, hf.status, word_hi_lo, unpackP_packP]

/-- An entry goes through its vector as the bus before it has it: the pushes stay in the stack page. -/
theorem enter_eq_goTo (h : s.bus.wf = true) (ret : Word) (b : Bool) {vector : Word} (hv : 512 ≤ vector.toNat)
    (hv' : vector.toNat < 65535) (c : Nat) :
    enter ret b vector c s = goTo s { s.cpu with sp := s.cpu.sp - 3, p := { s.cpu.p with i := true } }
      (((s.bus.write (inStackPage s.cpu.sp) (hi ret)).write (inStackPage (s.cpu.sp - 1)) (lo ret)).write
        (inStackPage (s.cpu.sp - 2)) (packP b s.cpu.p))
      (s.readWord vector) c := by
  simp only [inStackPage_eq, enter_eq, enter_readWord s h _ _ _ _ _ _ hv hv']
  rfl

/-- RTI after BRK finds the frame of the entry; only the pc and I had changed besides SP. -/
theorem returnFromInterrupt_softwareInterrupt_cpu (h : s.bus.wf = true) (row row' : Row) :
    (returnFromInterrupt row' (softwareInterrupt row s)).cpu = { s.cpu with pc := s.cpu.pc + 2 } := by
  rw [softwareInterrupt, (enter_holdsFrame h _ _ _ _).returnFromInterrupt_eq, enter_eq]

/-- Settles O28: BRK is an entry with B = 1 through the IRQ/BRK vector, and RTI after it pulls the entry's frame. -/
theorem brkEntersThroughIrqVector : Obligations.BrkEntersThroughIrqVector := by
  intro s h
  refine ⟨?_, fun t u ht hu => ?_⟩
  · exact runs_of_goTo (congrArg Host.Outcome.next (enter_eq_goTo h _ true (vector := irqVector) (by decide) (by decide) _))
      rfl rfl
  · obtain rfl : softwareInterrupt Instr.brk.row s = t := Host.Outcome.next.inj ht
    obtain rfl : returnFromInterrupt Instr.rti.row _ = u := Host.Outcome.next.inj hu
    exact returnFromInterrupt_softwareInterrupt_cpu h _ _

/-! ## Branches -/

/-- The model's target is that in integers (30_encoding.md R112). -/
theorem branchTarget_eq_target (r : Byte) (s : State) : branchTarget r s = target r s := by
  rw [target, BitVec.ofInt_add, BitVec.ofInt_add, BitVec.ofInt_natCast, BitVec.ofNat_toNat, BitVec.setWidth_eq]
  rfl

/-- A branch to the page of the next instruction costs 1 more than its base, to another page 2 more (R265). -/
theorem branchExtra_eq (r : Byte) (s : State) :
    branchExtra r s = if (s.cpu.pc + 2).toNat / 256 = (target r s).toNat / 256 then 1 else 2 := by
  rw [branchExtra, hi_bne_hi, branchTarget_eq_target]
  by_cases hpage : (s.cpu.pc + 2).toNat / 256 = (target r s).toNat / 256
  · rw [if_neg (by simpa using hpage), if_pos hpage]
  · rw [if_pos (by simpa using hpage), if_neg hpage]

/-- Every branch has two bytes and a base cost of 2, with no mark (30_encoding.md R125). -/
structure BranchRow (row : Row) (op : Byte) : Prop where
  opcode : row.opcode = op
  mode : row.mode = .relative
  cycles : row.cycles = some 2
  penalty : row.pagePenalty = false

theorem BranchRow.cycleCost_eq {row : Row} (hr : BranchRow row op) (g : Config) (k : Nat) :
    cycleCost g row false k = 2 + k := by
  rw [cycleCost, hr.cycles, hr.penalty]
  rfl

theorem branch_branchesIf {cond : Bool} {r : Byte} (he : exec i s = .next (branch cond i.row r s))
    (hr : BranchRow i.row op) : BranchesIf op i cond r s := by
  refine runs_of_row hr.opcode ?_
  rw [he, branch_eq, hr.cycleCost_eq, hr.mode, branchTarget_eq_target, branchExtra_eq]
  cases cond
  case false => rfl
  case true => simp only [if_true, apply_ite (2 + ·)]; rfl

/-- Settles O29: the eight instructions are one operation, at eight conditions. -/
theorem branchesFollowTheirFlag : Obligations.BranchesFollowTheirFlag := fun _ _ =>
  ⟨branch_branchesIf rfl ⟨rfl, rfl, rfl, rfl⟩, branch_branchesIf rfl ⟨rfl, rfl, rfl, rfl⟩,
    branch_branchesIf rfl ⟨rfl, rfl, rfl, rfl⟩, branch_branchesIf rfl ⟨rfl, rfl, rfl, rfl⟩,
    branch_branchesIf rfl ⟨rfl, rfl, rfl, rfl⟩, branch_branchesIf rfl ⟨rfl, rfl, rfl, rfl⟩,
    branch_branchesIf rfl ⟨rfl, rfl, rfl, rfl⟩, branch_branchesIf rfl ⟨rfl, rfl, rfl, rfl⟩⟩

end Sys2Proof.Machine
end

/-! # Stack and flags (45_stack_flags.md R290 to R300)

What a pushing instruction leaves of the bus follows from the stores it performs. Every form of the family has one byte and does not
redirect, so it ends as `runs_of_done1` says. -/

section

namespace Sys2Proof.Machine

open Sys2Proof.Claims

variable {s t : State} {i : Instr} {op : Byte} {c : Nat}

/-! ## What a push leaves of the bus -/

/-- A byte that is not among those stored is the one that was there. -/
theorem byteAfter_of_not_stored {ws : List (Word × Byte)} {a : Word} (ha : ∀ e ∈ ws, a ≠ e.1) :
    byteAfter s ws a = s.read a := by
  induction ws with
  | nil => rfl
  | cons e ws ih =>
    rw [List.forall_mem_cons] at ha
    obtain ⟨he, hws⟩ := ha
    exact (if_neg he).trans (ih hws)

theorem Performs.read_other {x : Storing} (hx : Performs s x) (h : s.bus.wf = true) (ht : exec x.instr s = .next t) {a : Word}
    (ha : ∀ e ∈ x.stored, a ≠ e.1) : t.read a = s.read a :=
  (hx.read_eq h ht a).trans (byteAfter_of_not_stored ha)

/-- Settles O43: the bytes each instruction stores are those at the one, two or three addresses. -/
theorem pushingInstructionsKeepEveryOtherByte : Obligations.PushingInstructionsKeepEveryOtherByte := by
  intro s t w h
  simp only [List.forall_mem_cons, and_assoc]
  refine ⟨fun ht a h0 => pha_performs.read_other h ht ?_, fun ht a h0 => php_performs.read_other h ht ?_, nofun,
    fun ht a h0 h1 => (jsr_performs w).read_other h ht ?_, fun ht a h0 h1 h2 => (brk_performs h).read_other h ht ?_⟩
  · simpa using h0
  · simpa using h0
  · simpa using ⟨h1, h0⟩
  · simpa using ⟨h2, h1, h0⟩

/-! ## The forms, with the rows of the listing (30_encoding.md R125) -/

/-- A form of one byte reports the cycles of its row (40_execute_cycle.md R146, R147). -/
theorem runs_of_done1 {cpu : Cpu} {bus : Memory}
    (he : exec i s = .next (done1 s cpu bus (cycleCost s.config i.row false 0))) (hop : i.row.opcode = op)
    (hc : i.row.cycles = some c) : Runs op i s (done1 s cpu bus c) := by
  rw [cycleCost_eq_of_some hc] at he
  exact runs_of_row hop he

theorem pushByte_runs (v : Byte) (he : exec i s = .next (pushByte v i.row s)) (hop : i.row.opcode = op)
    (hlen : i.row.mode.operandLength = 0) (hc : i.row.cycles = some c) :
    Runs op i s (done1 s { s.cpu with sp := s.cpu.sp - 1 } (s.bus.write (inStackPage s.cpu.sp) v) c) :=
  runs_of_done1 (by rw [he, pushByte_eq, hlen, inStackPage_eq]; rfl) hop hc

/-- Settles O30: PHA and PHP push a byte, A or the status with B = 1. -/
theorem pushesWriteOneByteBelow : Obligations.PushesWriteOneByteBelow := fun s =>
  ⟨pushByte_runs s.cpu.a rfl rfl rfl rfl, pushByte_runs (packP true s.cpu.p) rfl rfl rfl rfl⟩

/-- Settles O31: PLA and PLP pull the byte above SP, PLP to unpack it. -/
theorem pullsReadOneByteAbove : Obligations.PullsReadOneByteAbove := by
  intro s
  simp only [inStackPage_eq, ← setNZ_eq_nz]
  exact ⟨runs_of_done1 (congrArg Host.Outcome.next (pullA_eq s Instr.pla.row)) rfl rfl,
    runs_of_done1 (congrArg Host.Outcome.next (pullP_eq s Instr.plp.row)) rfl rfl⟩

theorem writeFlag_runs (g : Flags → Flags) (he : exec i s = .next (writeFlag g i.row s)) (hop : i.row.opcode = op)
    (hlen : i.row.mode.operandLength = 0) (hc : i.row.cycles = some c) :
    Runs op i s (done1 s { s.cpu with p := g s.cpu.p } s.bus c) :=
  runs_of_done1 (by rw [he, writeFlag_eq, hlen]; rfl) hop hc

/-- Settles O32: the seven instructions are one operation, at seven updates of P. -/
theorem flagInstructionsWriteOneFlag : Obligations.FlagInstructionsWriteOneFlag := fun _ =>
  ⟨writeFlag_runs (fun p => { p with c := false }) rfl rfl rfl rfl,
    writeFlag_runs (fun p => { p with c := true }) rfl rfl rfl rfl,
    writeFlag_runs (fun p => { p with i := false }) rfl rfl rfl rfl,
    writeFlag_runs (fun p => { p with i := true }) rfl rfl rfl rfl,
    writeFlag_runs (fun p => { p with d := false }) rfl rfl rfl rfl,
    writeFlag_runs (fun p => { p with d := true }) rfl rfl rfl rfl,
    writeFlag_runs (fun p => { p with v := false }) rfl rfl rfl rfl⟩

end Sys2Proof.Machine
end

/-! # Interrupts and the start of an instruction (60_exceptions.md R322, R326 to R333, R340, R341) -/

section

namespace Sys2Proof.Machine

open Sys2Proof.Claims

variable {s t : State}

/-- Settles O38: an operation changes registers, flags, the bus and the cycles it reports. -/
theorem noInstructionTouchesTheUnits : Obligations.NoInstructionTouchesTheUnits := by
  intro i s t h
  obtain ⟨f, hf, rfl, -⟩ := operation_of_exec h
  obtain ⟨_, _, -, hframe⟩ := hf.frame s
  rw [hframe]
  exact ⟨rfl, rfl, rfl, rfl, rfl, rfl, rfl, rfl⟩

/-! ## Entry and return -/

/-- Settles O36: the two entries are one operation, at two vectors outside the stack page. -/
theorem interruptEntrySavesPcAndStatus : Obligations.InterruptEntrySavesPcAndStatus := fun s h =>
  ⟨enter_eq_goTo h s.cpu.pc false (vector := nmiVector) (by decide) (by decide) entryCycles,
    enter_eq_goTo h s.cpu.pc false (vector := irqVector) (by decide) (by decide) entryCycles⟩

/-- A state that agrees with another on SP and on the three bytes above it holds the same frame. -/
theorem HoldsFrame.congr {u : State} {ret : Word} {b : Bool} (hf : HoldsFrame s u ret b) (hsp : t.cpu.sp = u.cpu.sp)
    (hread : ∀ k ∈ [(0 : Byte), 1, 2], t.read (inStackPage (s.cpu.sp - k)) = u.read (inStackPage (s.cpu.sp - k))) :
    HoldsFrame s t ret b := by
  simp only [List.forall_mem_cons, inStackPage_eq, sub_zero] at hread
  obtain ⟨hhigh, hlow, hstatus, -⟩ := hread
  exact ⟨hsp.trans hf.sp, hhigh.trans hf.high, hlow.trans hf.low, hstatus.trans hf.status⟩

theorem HoldsFrame.rti_runs {b : Bool} (hf : HoldsFrame s t s.cpu.pc b) :
    Runs 0x40 .rti t (goTo t { t.cpu with sp := s.cpu.sp, p := s.cpu.p } t.bus s.cpu.pc 6) :=
  runs_of_goTo (congrArg Host.Outcome.next (hf.returnFromInterrupt_eq Instr.rti.row)) rfl rfl

/-- Settles O37: RTI reads nothing but the frame, and both entries leave one with the interrupted pc. -/
theorem rtiUndoesInterruptEntry : Obligations.RtiUndoesInterruptEntry := by
  intro s t h ⟨entered, hmem, hsp, hread⟩
  have hframe : HoldsFrame s entered s.cpu.pc false := by
    fin_cases hmem
    · exact enter_holdsFrame h _ _ _ _
    · exact enter_holdsFrame h _ _ _ _
  exact (hframe.congr hsp hread).rti_runs

/-! ## What a tick does first -/

theorem irqAccepted_iff : irqAccepted s = true ↔ irqLevel s = true ∧ s.cpu.p.i = false := by
  rw [irqAccepted, Bool.and_eq_true, Bool.not_eq_true', and_comm]

/-- A pending NMI is entered first; both entries feed their 7 cycles (60_exceptions.md R328, R341). -/
theorem takeInterrupt_eq (s : State) :
    takeInterrupt s =
      if s.nmiRequest = true then feed 7 (nmiEntry { s with nmiRequest := false })
      else if irqLevel s = true ∧ s.cpu.p.i = false then feed 7 (irqEntry s)
      else s := by
  simp only [takeInterrupt, irqAccepted_iff, nmiEntry, irqEntry, enter_cycles, entryCycles]

/-- Settles O8: with an empty agenda a step is a tick, and no instruction fails. -/
theorem tickTakesOneInterruptThenOneInstruction : Obligations.TickTakesOneInterruptThenOneInstruction := by
  intro s hagenda r u
  have hu : u = beginTick s := (takeInterrupt_eq r).symm
  obtain ⟨f, -, hexec⟩ := exec_operation (fetch u)
  refine ⟨f u, hexec u, ?_⟩
  rw [step, hagenda]
  simp only [tick, ← hu, hexec]
  rfl

/-- With no pending NMI and no accepted IRQ a tick begins with its instruction. -/
theorem takeInterrupt_of_none (hnmi : s.nmiRequest = false) (hirq : s.cpu.p.i = true ∨ irqLevel s = false) :
    takeInterrupt s = s := by
  rw [takeInterrupt_eq, if_neg (by simp [hnmi]), if_neg]
  rintro ⟨hlevel, hi⟩
  rcases hirq with h | h
  · exact absurd (h.symm.trans hi) (by decide)
  · exact absurd (hlevel.symm.trans h) (by decide)

/-- A turn of the emulation agent is a tick, whether it is listed or no turn is. -/
theorem step_of_emulation (h : s.agenda = [] ∨ ∃ more, s.agenda = .emulation :: more) :
    step s = tick { s with agenda := s.agenda.tail } := by
  rcases h with h | ⟨more, h⟩
  · simp only [step, h, List.tail_nil]
    rw [← h]
  · simp only [step, h, List.tail_cons]

/-- The decoder and the fetch read one instruction at the pc. -/
theorem fetch_eq_of_decode {i : Instr} {rest : List Byte} (h : decode (bytesAtPc s) = .ok (i, rest)) : fetch s = i := by
  rw [bytesAtPc, decode_three] at h
  exact congrArg Prod.fst (Except.ok.inj h)

/-- Settles O7: the tick fetches what the decoder reads. -/
theorem stepRunsTheDecodedInstruction : Obligations.StepRunsTheDecodedInstruction := by
  intro s t i rest hagenda hnmi hirq hdecode hexec
  let u := lookBack 0 { s with agenda := s.agenda.tail }
  have hbegin : beginTick { s with agenda := s.agenda.tail } = u := takeInterrupt_of_none hnmi hirq
  have hfetch : fetch u = i := fetch_eq_of_decode hdecode
  rw [step_of_emulation hagenda]
  simp only [tick, hbegin, hfetch, u, hexec]

end Sys2Proof.Machine
end

/-! # The video timing unit (60_exceptions.md R360 to R368)

A PPU step moves `ppuCycle` and acts when that takes the state across an edge of VBlank. `videoTo` does so for a move to any
`ppuCycle`, so one PPU step and the bulk form of R368 are both moves, and fewer than 341 PPU steps cross at most one edge. -/

section

namespace Sys2Proof.Machine

open Sys2Proof.Claims

variable {s : State} {c n : Nat}

/-! ## Moves of the unit -/

/-- `StateOf` at a value of `ppuCycle` (R363). -/
def vstateAt (c : Nat) : VState := stateOf (c / 341)

/-- The fields that follow `ppuCycle` computed for the value `c`, and no action taken. -/
def setPpuCycle (c : Nat) (s : State) : State :=
  { s with video := { s.video with ppuCycle := c, scanline := c / 341, vstate := vstateAt c } }

@[simp] theorem setPpuCycle_ppuCycle : (setPpuCycle c s).video.ppuCycle = c := rfl

/-- A move to `ppuCycle` `c`, with the action of the edge it takes the state across, if any. -/
def videoTo (c : Nat) (s : State) : State :=
  if s.video.vstate = .visible ∧ vstateAt c = .vblankActive then vblankStart (setPpuCycle c s)
  else if s.video.vstate = .vblankActive ∧ vstateAt c = .vblankDone then vblankEnd (setPpuCycle c s)
  else setPpuCycle c s

theorem ppuStep_eq_videoTo (s : State) : ppuStep s = videoTo (nextPpuCycle s.video.ppuCycle) s := rfl

/-- The value of `ppuCycle` at most one frame on, wrapped once. -/
def wrapOnce (c : Nat) : Nat := if 89342 ≤ c then c - 89342 else c

theorem bulkAdvance_eq_videoTo (c : Nat) (s : State) : bulkAdvance c s = videoTo (wrapOnce (s.video.ppuCycle + 3 * c)) s :=
  rfl

/-- A move that stays in its state, or wraps from the end of the frame to its start, takes no action. -/
theorem videoTo_of_no_edge (h : vstateAt c = s.video.vstate ∨ vstateAt c = .visible) : videoTo c s = setPpuCycle c s := by
  unfold videoTo
  rcases h with h | h <;> rw [h] <;> cases s.video.vstate <;> rfl

theorem videoTo_of_start (hs : s.video.vstate = .visible) (hc : vstateAt c = .vblankActive) :
    videoTo c s = vblankStart (setPpuCycle c s) := if_pos ⟨hs, hc⟩

theorem videoTo_of_end (hs : s.video.vstate = .vblankActive) (hc : vstateAt c = .vblankDone) :
    videoTo c s = vblankEnd (setPpuCycle c s) := by
  rw [videoTo, if_neg (by simp [hs]), if_pos ⟨hs, hc⟩]

/-- The three things a move can do. -/
theorem videoTo_cases (c : Nat) (s : State) :
    videoTo c s = vblankStart (setPpuCycle c s) ∨ videoTo c s = vblankEnd (setPpuCycle c s) ∨
      videoTo c s = setPpuCycle c s := by
  unfold videoTo
  split_ifs <;> simp

@[simp] theorem videoTo_ppuCycle : (videoTo c s).video.ppuCycle = c := by
  rcases videoTo_cases c s with h | h | h <;> rw [h] <;> rfl

@[simp] theorem videoTo_vstate : (videoTo c s).video.vstate = vstateAt c := by
  rcases videoTo_cases c s with h | h | h <;> rw [h] <;> rfl

/-- Two moves are one when the first or the second stays in its state. -/
theorem videoTo_videoTo {c' : Nat} (h : vstateAt c = s.video.vstate ∨ vstateAt c' = vstateAt c) :
    videoTo c' (videoTo c s) = videoTo c' s := by
  rcases h with h | h
  · rw [videoTo_of_no_edge (.inl h), videoTo, videoTo, show (setPpuCycle c s).video.vstate = s.video.vstate from h]
    rfl
  · rw [videoTo_of_no_edge (.inl (h.trans videoTo_vstate.symm)), videoTo, videoTo, h]
    split_ifs <;> rfl

/-! ## The states by `ppuCycle`: VBlank is from 82,181 to 89,000 -/

theorem vstateAt_visible : vstateAt c = .visible ↔ c < 82181 := by
  rw [vstateAt, stateOf_visible]; omega

theorem vstateAt_vblankActive : vstateAt c = .vblankActive ↔ 82181 ≤ c ∧ c < 89001 := by
  rw [vstateAt, stateOf_vblankActive]; omega

theorem vstateAt_vblankDone : vstateAt c = .vblankDone ↔ 89001 ≤ c := by
  rw [vstateAt, stateOf_vblankDone]; omega

/-- The state stays when `ppuCycle` stays on one side of both edges. -/
theorem vstateAt_congr {c' : Nat} (hstart : c < 82181 ↔ c' < 82181) (hend : c < 89001 ↔ c' < 89001) :
    vstateAt c = vstateAt c' := by
  cases h : vstateAt c' with
  | visible => rw [vstateAt_visible] at h ⊢; omega
  | vblankActive => rw [vstateAt_vblankActive] at h ⊢; omega
  | vblankDone => rw [vstateAt_vblankDone] at h ⊢; omega

theorem vstate_eq_vstateAt (h : VideoAgrees s) : s.video.vstate = vstateAt s.video.ppuCycle := by
  obtain ⟨-, hscanline, hvstate⟩ := h
  rw [hvstate, hscanline, vstateAt]

/-- A unit whose fields agree is where it would be moved to. -/
theorem setPpuCycle_self (h : VideoAgrees s) : setPpuCycle s.video.ppuCycle s = s := by
  rw [setPpuCycle, ← vstate_eq_vstateAt h, ← h.2.1]

/-! ## One step at each edge -/

theorem nextPpuCycle_of_lt (h : c < 89341) : nextPpuCycle c = c + 1 :=
  if_neg (by unfold framePpuCycles; omega)

theorem ppuStep_at_start (h : VideoAgrees s) (hc : s.video.ppuCycle = 82180) :
    ppuStep s = vblankStart (setPpuCycle 82181 s) := by
  rw [ppuStep_eq_videoTo, hc]
  exact videoTo_of_start (by rw [vstate_eq_vstateAt h, hc]; rfl) rfl

theorem ppuStep_at_end (h : VideoAgrees s) (hc : s.video.ppuCycle = 89000) :
    ppuStep s = vblankEnd (setPpuCycle 89001 s) := by
  rw [ppuStep_eq_videoTo, hc]
  exact videoTo_of_end (by rw [vstate_eq_vstateAt h, hc]; rfl) rfl

theorem ppuStep_wrap (hc : s.video.ppuCycle = 89341) : ppuStep s = setPpuCycle 0 s := by
  rw [ppuStep_eq_videoTo, hc]
  exact videoTo_of_no_edge (.inr rfl)

theorem vstateAt_next (h : VideoAgrees s) (hstart : s.video.ppuCycle ≠ 82180) (hend : s.video.ppuCycle ≠ 89000) :
    vstateAt (s.video.ppuCycle + 1) = s.video.vstate := by
  rw [vstate_eq_vstateAt h]
  exact vstateAt_congr (by omega) (by omega)

theorem ppuStep_elsewhere (h : VideoAgrees s) (hstart : s.video.ppuCycle ≠ 82180)
    (hend : s.video.ppuCycle ≠ 89000) (hwrap : s.video.ppuCycle ≠ 89341) :
    ppuStep s = setPpuCycle (s.video.ppuCycle + 1) s := by
  have hlt : s.video.ppuCycle < 89341 := by have := h.1; omega
  rw [ppuStep_eq_videoTo, nextPpuCycle_of_lt hlt, videoTo_of_no_edge (.inl (vstateAt_next h hstart hend))]

/-- Settles O45: the step is a move, to a `ppuCycle` across an edge or not. -/
theorem ppuStepActsAtTheEdgesOfVBlank : Obligations.PpuStepActsAtTheEdgesOfVBlank := by
  intro s h t
  split_ifs with hstart hend hwrap
  · rw [show t = _ from ppuStep_at_start h hstart]
    exact ⟨rfl, rfl, rfl⟩
  · rw [show t = _ from ppuStep_at_end h hend]
    exact ⟨rfl, rfl, rfl⟩
  · rw [show t = _ from ppuStep_wrap hwrap]
    exact ⟨rfl, rfl, rfl⟩
  · rw [show t = _ from ppuStep_elsewhere h hstart hend hwrap]
    exact ⟨rfl, vstateAt_next h hstart hend, rfl, rfl, rfl⟩

/-! ## Many steps -/

theorem nextPpuCycle_wrapOnce (h : c + 1 < 2 * 89342) : nextPpuCycle (wrapOnce c) = wrapOnce (c + 1) := by
  unfold nextPpuCycle wrapOnce framePpuCycles
  split_ifs <;> omega

/-- Every two edges are at least 341 PPU cycles apart: after fewer, either no edge has been crossed or the next PPU cycle crosses
none. -/
theorem vstateAt_wrapOnce (hc : c < 89342) (hn : n + 1 < 341) :
    vstateAt (wrapOnce (c + n)) = vstateAt c ∨ vstateAt (wrapOnce (c + (n + 1))) = vstateAt (wrapOnce (c + n)) := by
  unfold wrapOnce
  by_cases hat : c + n = 82180 ∨ c + n = 89000 ∨ c + n = 89341
  · exact .inl (vstateAt_congr (by split_ifs <;> omega) (by split_ifs <;> omega))
  · exact .inr (vstateAt_congr (by split_ifs <;> omega) (by split_ifs <;> omega))

/-- Fewer than 341 PPU steps are one move. -/
theorem ppuSteps_eq_videoTo (h : VideoAgrees s) (hn : n < 341) :
    ppuSteps n s = videoTo (wrapOnce (s.video.ppuCycle + n)) s := by
  have hlt := h.1
  induction n with
  | zero =>
    have hwrap : wrapOnce (s.video.ppuCycle + 0) = s.video.ppuCycle := if_neg (by omega)
    rw [hwrap, videoTo_of_no_edge (.inl (vstate_eq_vstateAt h).symm), setPpuCycle_self h]
    rfl
  | succ n ih =>
    rw [ppuSteps_succ, ih (by omega), ppuStep_eq_videoTo, videoTo_ppuCycle, nextPpuCycle_wrapOnce (by omega), videoTo_videoTo]
    · rfl
    · rw [vstate_eq_vstateAt h]
      exact vstateAt_wrapOnce hlt hn

/-- Settles O47: the bulk form is the same move. -/
theorem videoAdvanceIsTheBulkForm : Obligations.VideoAdvanceIsTheBulkForm := fun c s hc h =>
  (ppuSteps_eq_videoTo h hc).trans (bulkAdvance_eq_videoTo c s).symm

/-- Before VBlank PPU steps only move the unit on. -/
theorem ppuSteps_visible (h : VideoAgrees s) (hn : s.video.ppuCycle + n < 82181) :
    ppuSteps n s = setPpuCycle (s.video.ppuCycle + n) s := by
  induction n with
  | zero => exact (setPpuCycle_self h).symm
  | succ n ih =>
    have hnext : nextPpuCycle (s.video.ppuCycle + n) = s.video.ppuCycle + (n + 1) := nextPpuCycle_of_lt (by omega)
    rw [ppuSteps_succ, ih (by omega), ppuStep_eq_videoTo, setPpuCycle_ppuCycle, hnext,
      videoTo_of_no_edge (.inr (vstateAt_visible.2 hn))]
    rfl

theorem setPpuCycle_agrees (s : State) (hc : c < 89342) : VideoAgrees (setPpuCycle c s) := ⟨hc, rfl, rfl⟩

theorem launch_videoAgrees (g : Config) (bus : Memory) : VideoAgrees (State.launch g bus) :=
  ⟨(by decide : 0 < 89342), (Nat.zero_div _).symm, rfl⟩

/-- From launch PPU steps only move the unit on until VBlank. -/
theorem ppuSteps_launch (g : Config) (bus : Memory) (hn : n < 82181) :
    ppuSteps n (State.launch g bus) = setPpuCycle n (State.launch g bus) := by
  have h := ppuSteps_visible (launch_videoAgrees g bus) (n := n)
  rw [show (State.launch g bus).video.ppuCycle = 0 from rfl, Nat.zero_add] at h
  exact h hn

/-- The first 27,394 CPU cycles are 82,180 PPU cycles and two more, which start VBlank. -/
theorem videoAdvance_launch_start (g : Config) (bus : Memory) :
    videoAdvance 27394 (State.launch g bus) = vblankStart (setPpuCycle 82182 (State.launch g bus)) := by
  have hcycles : ppuPerCpu * 27394 = 82180 + 2 := rfl
  rw [videoAdvance, hcycles, ppuSteps_add, ppuSteps_launch g bus (by decide),
    ppuSteps_eq_videoTo (setPpuCycle_agrees _ (by decide)) (by decide), setPpuCycle_ppuCycle]
  exact videoTo_of_start rfl rfl

/-- Settles O48: the cycles before leave the unit visible. -/
theorem firstVBlankAfter27394Cycles : Obligations.FirstVBlankAfter27394Cycles := by
  intro g bus
  refine ⟨fun c hc => ?_, ?_⟩
  · rw [videoAdvance, ppuPerCpu, ppuSteps_launch g bus (by omega)]
    exact ⟨rfl, rfl⟩
  · rw [videoAdvance_launch_start]
    exact ⟨rfl, rfl⟩

/-! ## What the unit leaves as it was -/

/-- A PPU step changes the video unit, the request and the bus. -/
theorem ppuStep_frame (s : State) :
    ppuStep s = { s with
      video := (ppuStep s).video, nmiRequest := (ppuStep s).nmiRequest, bus := (ppuStep s).bus } := by
  rcases ppuStep_cases s with ⟨_, _, h⟩ | ⟨_, _, h⟩ | ⟨_, _, h⟩ <;> rw [h] <;> rfl

theorem ppuSteps_frame (n : Nat) (s : State) :
    ppuSteps n s = { s with
      video := (ppuSteps n s).video, nmiRequest := (ppuSteps n s).nmiRequest, bus := (ppuSteps n s).bus } :=
  ppuSteps_keeps (p := fun t => t = { s with video := t.video, nmiRequest := t.nmiRequest, bus := t.bus }) s
    (fun t ht => by rw [ppuStep_frame, ht]) n rfl

theorem videoAdvance_frame (c : Nat) (s : State) :
    videoAdvance c s = { s with
      video := (videoAdvance c s).video
      nmiRequest := (videoAdvance c s).nmiRequest
      bus := (videoAdvance c s).bus } :=
  ppuSteps_frame _ s

/-- Setting bit 7 and clearing it leave the other seven bits. -/
theorem mask_or_bit7 (v : Byte) : (v ||| 0x80) &&& 0x7F = v &&& 0x7F := by
  rw [BitVec.and_or_distrib_right]
  exact BitVec.or_zero

theorem mask_and_mask (v : Byte) : v &&& 0x7F &&& 0x7F = v &&& 0x7F := by
  rw [BitVec.and_assoc, BitVec.and_self]

/-- Of the status byte a PPU step writes bit 7 alone (R364, R365). -/
theorem ppuStep_read_status (h : s.bus.wf = true) :
    (ppuStep s).read vblankStatusAddr &&& 0x7F = s.read vblankStatusAddr &&& 0x7F := by
  rcases ppuStep_cases s with ⟨_, _, e⟩ | ⟨_, _, e⟩ | ⟨_, _, e⟩ <;> rw [e]
  · exact (congrArg (· &&& 0x7F) (Memory.read_write_same h _ _)).trans (mask_or_bit7 _)
  · exact (congrArg (· &&& 0x7F) (Memory.read_write_same h _ _)).trans (mask_and_mask _)
  · rfl

theorem videoAdvance_bus_wf (c : Nat) (h : s.bus.wf = true) : (videoAdvance c s).bus.wf = true :=
  ppuSteps_keeps (p := fun t => t.bus.wf = true) s ppuStep_bus_wf _ h

/-- Settles O46: each PPU step leaves these bytes and bits, and keeps the bus in canonical form for the next. -/
theorem videoUnitTouchesOnlyTheStatusBit : Obligations.VideoUnitTouchesOnlyTheStatusBit := by
  intro c s h
  refine ⟨fun a ha => ?_, ?_, videoAdvance_frame c s⟩
  · exact (ppuSteps_keeps (p := fun t => t.bus.wf = true ∧ t.read a = s.read a) s
      (fun t ⟨hwf, hread⟩ => ⟨ppuStep_bus_wf t hwf, (ppuStep_read_other t hwf ha).trans hread⟩) _ ⟨h, rfl⟩).2
  · exact (ppuSteps_keeps
      (p := fun t => t.bus.wf = true ∧ t.read vblankStatusAddr &&& 0x7F = s.read vblankStatusAddr &&& 0x7F) s
      (fun t ⟨hwf, hread⟩ => ⟨ppuStep_bus_wf t hwf, (ppuStep_read_status hwf).trans hread⟩) _ ⟨h, rfl⟩).2

/-! ## The invariant of the unit -/

/-- The unit's fields after `n` PPU cycles from launch (10_state.md R34, 60_exceptions.md R343). -/
structure VideoAfter (n : Nat) (v : Video) : Prop where
  phase : v.ppuCycle = n % framePpuCycles
  scanline : v.scanline = v.ppuCycle / ppuPerScanline
  vstate : v.vstate = stateOf v.scanline
  active : v.vblankActive = decide (v.vstate = .vblankActive)

theorem VideoAfter.agrees (h : VideoAfter n s.video) : VideoAgrees s :=
  ⟨by rw [h.phase]; exact Nat.mod_lt _ (by decide), h.scanline, h.vstate⟩

/-- The active flag follows the state across each edge; the wrap of the frame crosses none. -/
theorem VideoAfter.ppuStep_active (h : VideoAfter n s.video) :
    (ppuStep s).video.vblankActive = decide ((ppuStep s).video.vstate = .vblankActive) := by
  have hagrees : VideoAgrees s := h.agrees
  by_cases hstart : s.video.ppuCycle = 82180
  · rw [ppuStep_at_start hagrees hstart]; rfl
  by_cases hend : s.video.ppuCycle = 89000
  · rw [ppuStep_at_end hagrees hend]; rfl
  by_cases hwrap : s.video.ppuCycle = 89341
  · have hactive : s.video.vblankActive = false := by rw [h.active, vstate_eq_vstateAt hagrees, hwrap]; rfl
    rw [ppuStep_wrap hwrap]
    exact hactive
  · rw [ppuStep_elsewhere hagrees hstart hend hwrap]
    exact h.active.trans (by rw [← vstateAt_next hagrees hstart hend]; rfl)

theorem VideoAfter.step (h : VideoAfter n s.video) : VideoAfter (n + 1) (ppuStep s).video where
  phase := by rw [ppuStep_ppuCycle, nextPpuCycle_eq h.agrees.1, h.phase, Nat.mod_add_mod]
  scanline := by rw [ppuStep_scanline, ppuStep_ppuCycle]
  vstate := by rw [ppuStep_vstate, ppuStep_scanline]
  active := h.ppuStep_active

theorem VideoAfter.steps (h : VideoAfter n s.video) (k : Nat) : VideoAfter (n + k) (ppuSteps k s).video := by
  induction k with
  | zero => exact h
  | succ k ih => rw [ppuSteps_succ]; exact ih.step

end Sys2Proof.Machine
end

/-! # The channels and the sample (60_exceptions.md R376 to R382) -/

section

namespace Sys2Proof.Machine

open Sys2Proof.Claims

variable (s : State) (g : Config) (n p : Nat)

/-! ## The registers in numbers (R376) -/

theorem channelPeriod_eq (loAddr hiAddr : Word) : channelPeriod s loAddr hiAddr = periodNat s loAddr hiAddr := by
  have hmask : (s.read hiAddr &&& 0x07).toNat = (s.read hiAddr).toNat % 8 := Nat.and_two_pow_sub_one_eq_mod _ 3
  rw [channelPeriod, word_toNat, hmask, periodNat, Nat.mul_comm]

theorem periodNat_lt (loAddr hiAddr : Word) : periodNat s loAddr hiAddr < 2048 := by
  have := (s.read loAddr).isLt
  unfold periodNat
  omega

theorem channelDuty_eq (addr : Word) : channelDuty s addr = dutyNat s addr := by
  rw [channelDuty, dutyNat, BitVec.toNat_ushiftRight, Nat.shiftRight_eq_div_pow]

theorem dutyNat_lt (addr : Word) : dutyNat s addr < 4 := by
  have := (s.read addr).isLt
  unfold dutyNat
  omega

/-! ## The channels -/

theorem phaseStep_eq (steps divider : Nat) : phaseStep g steps divider n p = stepNat g steps divider n p := rfl

/-- A remainder is below its divisor, so the phase stays below the steps of the cycle. -/
theorem stepNat_lt {steps : Nat} (h : 0 < steps) (divider : Nat) : stepNat g steps divider n p < steps := by
  unfold stepNat
  generalize g.sampleRateHz * divider * (p + 1) = q
  rcases Nat.eq_zero_or_pos q with rfl | hq
  · rwa [Nat.div_zero]
  · rw [Nat.div_lt_iff_lt_mul hq]
    exact Nat.mul_lt_mul_of_pos_left (Nat.mod_lt _ hq) h

theorem dutyTable_getD : ∀ d < 4, ∀ x < 8, (dutyTable.getD d []).getD x 0 = if pulseHigh d x then 1 else 0 := by decide

theorem triangleTable_getD : ∀ x < 32, triangleTable.getD x 0 = triangleLevel x := by decide

/-- The clamp is idle, and the table holds R380's lists. -/
theorem pulseValue_eq {d : Nat} (hd : d < 4) : pulseValue g n p d = pulseNat g n p d := by
  have hstep : stepNat g 8 16 n p < 8 := stepNat_lt g n p (by decide) 16
  rw [pulseValue, phaseStep_eq, Nat.min_eq_right (by omega), dutyTable_getD d hd _ hstep, pulseNat]

theorem triangleValue_eq : triangleValue g n p = triangleNat g n p := by
  have hstep : stepNat g 32 32 n p < 32 := stepNat_lt g n p (by decide) 32
  rw [triangleValue, phaseStep_eq, Nat.min_eq_right (by omega), triangleTable_getD _ hstep, triangleNat]

/-! ## The sample -/

/-- A saturated number fits 16 bits. -/
theorem toInt_ofInt_sat16 (x : Int) : (BitVec.ofInt 16 (sat16 x)).toInt = sat16 x := by
  rw [BitVec.toInt_ofInt]
  unfold sat16
  exact Int.bmod_eq_of_le (by omega) (by omega)

/-- Settles O51: the clamp of each phase step is idle, and so is the wrap of the saturated sum. -/
theorem phaseStaysInTableAndSampleSaturates : Obligations.PhaseStaysInTableAndSampleSaturates := by
  refine ⟨fun s a c => ?_, fun g n p => ?_, fun s n => ?_⟩
  · rw [channelPeriod_eq]
    exact ⟨rfl, periodNat_lt s a c, channelDuty_eq s a⟩
  · exact ⟨rfl, stepNat_lt g n p (by decide) 16, rfl, stepNat_lt g n p (by decide) 32, fun d hd => pulseValue_eq g n p hd,
      triangleValue_eq g n p⟩
  · simp only [synth, toInt_ofInt_sat16, channelPeriod_eq, channelDuty_eq, pulseValue_eq _ _ _ (dutyNat_lt _ _),
      triangleValue_eq, Nat.cast_add]
    rfl

/-- The channels are those of the same bytes. -/
theorem synth_eq_of_registers {s t : State} (hconfig : s.config = t.config)
    (hread : ∀ a ∈ audioRegisters, s.read a = t.read a) (n : Nat) : synth s n = synth t n := by
  simp only [audioRegisters, List.forall_mem_cons] at hread
  obtain ⟨h4000, h4002, h4003, h4004, h4006, h4007, h400A, h400B, -⟩ := hread
  simp only [synth, channelPeriod, channelDuty, hconfig, h4000, h4002, h4003, h4004, h4006, h4007, h400A, h400B]

@[simp] theorem pulseValue_period_zero (d : Nat) : pulseValue g n 0 d = 0 := rfl

@[simp] theorem triangleValue_period_zero : triangleValue g n 0 = 0 := rfl

/-- Settles O52: the channels are all that a sample reads, and a period of 0 yields 0. -/
theorem sampleReadsOnlyTheChannelRegisters : Obligations.SampleReadsOnlyTheChannelRegisters := by
  refine ⟨fun s t n hconfig hread => synth_eq_of_registers hconfig hread n, fun s n h1 h2 ht => ?_⟩
  simp only [synth, h1, h2, ht, pulseValue_period_zero, triangleValue_period_zero, Nat.add_zero, Nat.cast_zero, mul_zero]
  rfl

end Sys2Proof.Machine
end

/-! # The producer of the ring (60_exceptions.md R378, R383, R385)

The slots the producer writes are told apart by their place after the write cursor, as long as no more are written than there are.
What the callback agent may still see is the ring as it was some writes ago, and that is the ring after the writes before them. -/

section

namespace Sys2Proof.Machine

variable {s : State} {vs : List Sample} {j k lag : Nat}

/-! ## The slots after a flush -/

/-- Fewer places than slots lie at different slots. -/
theorem place_inj {cap a i j : Nat} (hi : i < cap) (hj : j < cap) (h : (a + i) % cap = (a + j) % cap) : i = j :=
  Nat.ModEq.eq_of_lt_of_lt (Nat.ModEq.add_left_cancel' a h) hi hj

/-- The slots are in canonical form, and there is one. -/
structure RingWf (s : State) : Prop where
  capacity : 0 < s.config.ringCapacity
  slots : Store.wf (0 : Sample) s.config.ringCapacity s.ring.slots = true

theorem RingWf.after_produceAll (h : RingWf s) (vs : List Sample) : RingWf (produceAll vs s) := by
  have hconfig : (produceAll vs s).config = s.config := by rw [produceAll_frame]
  exact ⟨hconfig ▸ h.capacity, hconfig ▸ produceAll_slots_wf s vs h.capacity h.slots⟩

theorem RingWf.after_produce (h : RingWf s) (v : Sample) : RingWf (produce v s) := h.after_produceAll [v]

theorem RingWf.produce_slot (h : RingWf s) (v : Sample) (k : Nat) :
    (produce v s).ring.slot k = if k = s.ring.wcur % s.config.ringCapacity then v else s.ring.slot k :=
  Store.get_set h.slots k

theorem RingWf.produceAll_slot_other (h : RingWf s)
    (hk : ∀ j < vs.length, k ≠ (s.ring.wcur + j) % s.config.ringCapacity) :
    (produceAll vs s).ring.slot k = s.ring.slot k := by
  induction vs generalizing s with
  | nil => rfl
  | cons v vs ih =>
    have hrest : ∀ j < vs.length, k ≠ (s.ring.wcur + 1 + j) % s.config.ringCapacity := fun j hj => by
      rw [Nat.add_assoc, Nat.add_comm 1 j]
      exact hk (j + 1) (Nat.succ_lt_succ hj)
    exact (ih (h.after_produce v) hrest).trans ((h.produce_slot v k).trans (if_neg (hk 0 (Nat.succ_pos _))))

theorem RingWf.produceAll_slot_at (h : RingWf s) (hl : vs.length ≤ s.config.ringCapacity) (hj : j < vs.length) :
    (produceAll vs s).ring.slot ((s.ring.wcur + j) % s.config.ringCapacity) = vs[j] := by
  induction vs generalizing s j with
  | nil => exact absurd hj (Nat.not_lt_zero j)
  | cons v vs ih =>
    rw [List.length_cons] at hl hj
    cases j with
    | zero =>
      have hother : ∀ i < vs.length,
          (s.ring.wcur + 0) % s.config.ringCapacity ≠ (s.ring.wcur + 1 + i) % s.config.ringCapacity := fun i hi heq => by
        rw [Nat.add_assoc] at heq
        exact absurd (place_inj (by omega) (by omega) heq) (by omega)
      exact ((h.after_produce v).produceAll_slot_other hother).trans ((h.produce_slot v _).trans (if_pos rfl))
    | succ j =>
      have hrest := ih (h.after_produce v) (j := j) (Nat.le_of_succ_le hl) (Nat.lt_of_succ_lt_succ hj)
      rw [show s.ring.wcur + (j + 1) = s.ring.wcur + 1 + j by omega]
      exact hrest

theorem flush_ring (s : State) : (flush s).ring = (produceAll s.audio.staging s).ring := rfl

theorem flush_pull (s : State) : (flush s).callback.pull = s.callback.pull := by rw [flush_frame]

theorem flush_rcur (s : State) : (flush s).ring.rcur = s.ring.rcur := by rw [flush_frame]

theorem flush_config (s : State) : (flush s).config = s.config := by rw [flush_frame]

theorem flush_wcur (s : State) : (flush s).ring.wcur = s.ring.wcur + s.audio.staging.length := by rw [flush_frame]

/-- Settles O50: a flush is the production of what is staged. -/
theorem flushMovesStagedSamplesInOrder : Obligations.FlushMovesStagedSamplesInOrder := by
  intro s hcap hlen hslots t
  have h : RingWf s := ⟨hcap, hslots⟩
  exact ⟨fun j hj => h.produceAll_slot_at hlen hj, fun k hk => h.produceAll_slot_other hk, flush_wcur s, flush_rcur s, rfl⟩

/-! ## A slot some writes ago -/

/-- After part of the writes a slot holds what it held before them all or what it holds after them all. -/
theorem RingWf.produceAll_take_slot (h : RingWf s) (hl : vs.length ≤ s.config.ringCapacity) (m k : Nat) :
    (produceAll (vs.take m) s).ring.slot k = s.ring.slot k ∨
      (produceAll (vs.take m) s).ring.slot k = (produceAll vs s).ring.slot k := by
  have hlen : (vs.take m).length = min m vs.length := List.length_take
  by_cases hk : ∃ j < vs.length, k = (s.ring.wcur + j) % s.config.ringCapacity
  · obtain ⟨j, hj, rfl⟩ := hk
    by_cases hjm : j < m
    · right
      rw [h.produceAll_slot_at hl hj, h.produceAll_slot_at (by omega) (by omega : j < (vs.take m).length), List.getElem_take]
    · left
      exact h.produceAll_slot_other fun i hi heq => absurd (place_inj (by omega) (by omega) heq) (by omega)
  · left
    exact h.produceAll_slot_other fun i hi heq => hk ⟨i, by omega, heq⟩

/-- Looking back over the latest write as well gives the slot as it was before that write. -/
theorem RingWf.slotBefore_produce (h : RingWf s) (v : Sample) (lag k : Nat) :
    slotBefore k ((produce v s).callback.unseen.take (lag + 1)) ((produce v s).ring.slot k) =
      slotBefore k (s.callback.unseen.take lag) (s.ring.slot k) := by
  have hundo : (if s.ring.wcur % s.config.ringCapacity = k then s.ring.slot (s.ring.wcur % s.config.ringCapacity)
      else (produce v s).ring.slot k) = s.ring.slot k := by
    split_ifs with hk
    · rw [hk]
    · rw [h.produce_slot, if_neg (Ne.symm hk)]
  exact congrArg (slotBefore k (s.callback.unseen.take lag)) hundo

/-- Before its latest `lag` writes the ring was as the writes before them left it. -/
theorem RingWf.slotBefore_produceAll (h : RingWf s) (hu : s.callback.unseen = []) (vs : List Sample) (lag k : Nat) :
    slotBefore k ((produceAll vs s).callback.unseen.take lag) ((produceAll vs s).ring.slot k) =
      (produceAll (vs.take (vs.length - lag)) s).ring.slot k := by
  induction vs using List.reverseRecOn generalizing lag with
  | nil => rw [produceAll_nil, hu, List.take_nil, List.take_nil]; rfl
  | append_singleton ws v ih =>
    cases lag with
    | zero => rw [Nat.sub_zero, List.take_length]; rfl
    | succ lag =>
      have htake : (ws ++ [v]).take ((ws ++ [v]).length - (lag + 1)) = ws.take (ws.length - lag) := by
        rw [List.length_append, List.length_singleton, Nat.add_sub_add_right, List.take_append_of_le_length (Nat.sub_le _ _)]
      rw [htake, produceAll_append, ← ih lag]
      exact (h.after_produceAll ws).slotBefore_produce v lag k

/-! ## What the producer leaves for the callback agent -/

/-- Words of writes to slots alone. -/
def SlotNotes (u : List Replaced) : Prop := ∀ e ∈ u, ∃ k old, e = .slot k old

/-- Each write leaves word of itself before those that are there. -/
theorem produceAll_unseen (vs : List Sample) (s : State) :
    ∃ notes, SlotNotes notes ∧ (produceAll vs s).callback.unseen = notes ++ s.callback.unseen := by
  induction vs using List.reverseRecOn with
  | nil => exact ⟨[], nofun, rfl⟩
  | append_singleton ws v ih =>
    obtain ⟨notes, hnotes, hunseen⟩ := ih
    rw [produceAll_append]
    exact ⟨_ :: notes, List.forall_mem_cons.2 ⟨⟨_, _, rfl⟩, hnotes⟩, congrArg (List.cons _) hunseen⟩

theorem wcurBefore_of_slotNotes {u : List Replaced} (h : SlotNotes u) (w : Nat) : wcurBefore u w = w := by
  induction u with
  | nil => rfl
  | cons e u ih =>
    obtain ⟨⟨k, old, rfl⟩, hu⟩ := List.forall_mem_cons.1 h
    exact ih hu

/-- The write cursor is published after the slots are written, so word of it comes first. -/
theorem flush_unseen (s : State) :
    (flush s).callback.unseen = .wcur s.ring.wcur :: (produceAll s.audio.staging s).callback.unseen := rfl

/-- The ring's slots as they are seen before the latest `lag` writes of a flush. -/
theorem RingWf.seenSlot_flush (h : RingWf s) (hu : s.callback.unseen = []) (lag k : Nat) :
    seenSlot (lookBack lag (flush s)) k =
      (produceAll (s.audio.staging.take (s.audio.staging.length + 1 - lag)) s).ring.slot k := by
  cases lag with
  | zero => rw [Nat.sub_zero, List.take_of_length_le (Nat.le_succ _)]; rfl
  | succ lag =>
    rw [Nat.add_sub_add_right, ← h.slotBefore_produceAll hu]
    rfl

theorem seenWcur_flush (hu : s.callback.unseen = []) (hlag : 0 < lag) : seenWcur (lookBack lag (flush s)) = s.ring.wcur := by
  obtain ⟨notes, hnotes, hunseen⟩ := produceAll_unseen s.audio.staging s
  obtain ⟨lag, rfl⟩ : ∃ l, lag = l + 1 := ⟨lag - 1, by omega⟩
  rw [hu, List.append_nil] at hunseen
  rw [seenWcur, lookBack_frame, flush_unseen, hunseen]
  exact wcurBefore_of_slotNotes (fun e he => hnotes e (List.mem_of_mem_take he)) _

/-- The samples a Pull holds after it has read one more. -/
theorem pullAdvance_got {p : Pull} (hp : s.callback.pull = some p) (h : p.got.length < p.count) :
    (pullAdvance s).callback.pull.map (fun q => q.got) =
      some (p.got ++ [seenSlot s ((s.ring.rcur + p.got.length) % s.config.ringCapacity)]) := by
  simp only [pullAdvance, hp, if_pos h, Option.map_some]

/-- A Pull whose next read comes before the latest `lag` writes of a flush reads the ring as it was after the others. -/
theorem RingWf.pullAdvance_flush_got (h : RingWf s) (hu : s.callback.unseen = []) {p : Pull} (hp : s.callback.pull = some p)
    (hcount : p.got.length < p.count) (lag : Nat) :
    (pullAdvance (lookBack lag (flush s))).callback.pull.map (fun q => q.got) =
      some (p.got ++ [(produceAll (s.audio.staging.take (s.audio.staging.length + 1 - lag)) s).ring.slot
        ((s.ring.rcur + p.got.length) % s.config.ringCapacity)]) := by
  have hpull : (lookBack lag (flush s)).callback.pull = some p := (flush_pull s).trans hp
  have hrcur : (lookBack lag (flush s)).ring.rcur = s.ring.rcur := flush_rcur s
  have hconfig : (lookBack lag (flush s)).config = s.config := flush_config s
  rw [pullAdvance_got hpull hcount, hrcur, hconfig, h.seenSlot_flush hu]

/-- Settles O54: a read that comes before some of a flush's writes reads the ring as it was after the others. -/
theorem racingReadReturnsOldOrNewSample : Obligations.RacingReadReturnsOldOrNewSample := by
  intro s hu hcap hlen hslots
  have h : RingWf s := ⟨hcap, hslots⟩
  refine ⟨fun p hp hcount => ?_, ?_, fun lag hlag => seenWcur_flush hu hlag⟩
  · intro k got
    have hgot : ∀ lag, got lag = some (p.got ++ [_]) := h.pullAdvance_flush_got hu hp hcount
    refine ⟨fun lag => ?_, ?_, fun lag hlag => ?_⟩
    · rw [hgot, flush_ring]
      rcases h.produceAll_take_slot hlen (s.audio.staging.length + 1 - lag) k with hslot | hslot
      · exact .inl (congrArg (fun v => some (p.got ++ [v])) hslot)
      · exact .inr (congrArg (fun v => some (p.got ++ [v])) hslot)
    · rw [hgot, Nat.sub_zero, List.take_of_length_le (Nat.le_succ _), flush_ring]
    · rw [hgot, Nat.sub_eq_zero_of_le hlag, List.take_zero, produceAll_nil]
  · rw [seenWcur, lookBack_zero_unseen]
    exact flush_wcur s

end Sys2Proof.Machine
end

/-! # The audio unit (60_exceptions.md R378)

Whatever has been synthesised is split in two: whole batches, which the ring has received in order, and the rest, which is staged. -/

section

namespace Sys2Proof.Machine

variable {s t : State} {all : List Sample}

/-! ## Many samples -/

theorem synthesiseN_succ (n : Nat) (s : State) : synthesiseN (n + 1) s = synthesise (synthesiseN n s) := by
  induction n generalizing s with
  | zero => rfl
  | succ n ih => exact ih (synthesise s)

@[simp] theorem synthesiseN_apuCycles (n : Nat) (s : State) :
    (synthesiseN n s).audio.apuCycles = s.audio.apuCycles := by
  induction n with
  | zero => rfl
  | succ n ih => rw [synthesiseN_succ, synthesise_apuCycles, ih]

@[simp] theorem synthesiseN_samplesMade (n : Nat) (s : State) :
    (synthesiseN n s).audio.samplesMade = s.audio.samplesMade + n := by
  induction n with
  | zero => rfl
  | succ n ih => rw [synthesiseN_succ, synthesise_samplesMade, ih, Nat.add_assoc]

theorem synthesiseN_config (n : Nat) (s : State) : (synthesiseN n s).config = s.config := by rw [synthesiseN_frame]

theorem synthesiseN_bus (n : Nat) (s : State) : (synthesiseN n s).bus = s.bus := by rw [synthesiseN_frame]

/-- The next sample is synthesised from the bus as it is, however many were before it. -/
theorem synth_synthesiseN (n : Nat) (s : State) :
    synth (synthesiseN n s) (synthesiseN n s).audio.samplesMade = synth s (s.audio.samplesMade + n) := by
  rw [synthesiseN_samplesMade]
  exact synth_congr (synthesiseN_config n s) (synthesiseN_bus n s) _

/-! ## One sample -/

/-- What the producer makes of the ring depends on the ring and its capacity. -/
theorem produceAll_ring_congr (hconfig : s.config = t.config) (hring : s.ring = t.ring) (vs : List Sample) :
    (produceAll vs s).ring = (produceAll vs t).ring := by
  induction vs generalizing s t with
  | nil => exact hring
  | cons v vs ih => exact ih hconfig (by simp only [produce, hconfig, hring])

/-- The sample that fills a batch sends it to the ring. -/
theorem synthesise_of_full (h : s.audio.staging.length + 1 = s.config.batchSize) :
    (synthesise s).audio.staging = [] ∧
      (synthesise s).ring = (produceAll (s.audio.staging ++ [synth s s.audio.samplesMade]) s).ring := by
  simp only [synthesise, List.length_append, List.length_singleton, if_pos h]
  refine ⟨rfl, (flush_ring _).trans (produceAll_ring_congr ?_ ?_ _)⟩ <;> rfl

theorem synthesise_of_short (h : s.audio.staging.length + 1 ≠ s.config.batchSize) :
    (synthesise s).audio.staging = s.audio.staging ++ [synth s s.audio.samplesMade] ∧ (synthesise s).ring = s.ring := by
  simp only [synthesise, List.length_append, List.length_singleton, if_neg h, and_self]

/-! ## Whole batches -/

/-- Of the samples `all`, the ring of `s` has received whole batches in `t`, and the rest is staged there. -/
structure Batched (all : List Sample) (s t : State) : Prop where
  config : t.config = s.config
  short : t.audio.staging.length < s.config.batchSize
  split : ∃ batches, all = batches ++ t.audio.staging ∧ s.config.batchSize ∣ batches.length ∧
    t.ring = (produceAll batches s).ring

theorem Batched.after_synthesise (h : Batched all s t) : Batched (all ++ [synth t t.audio.samplesMade]) s (synthesise t) := by
  obtain ⟨hconfig, hshort, batches, hall, hdvd, hring⟩ := h
  have hconfig' : (synthesise t).config = s.config := by rw [synthesise_frame]; exact hconfig
  by_cases hfull : t.audio.staging.length + 1 = t.config.batchSize
  · obtain ⟨hstaging, hring'⟩ := synthesise_of_full hfull
    refine ⟨hconfig', by rw [hstaging]; exact Nat.zero_lt_of_lt hshort, all ++ [synth t t.audio.samplesMade], ?_, ?_, ?_⟩
    · rw [hstaging, List.append_nil]
    · rw [hall, List.length_append, List.length_append, Nat.add_assoc, List.length_singleton, hfull, hconfig]
      exact Nat.dvd_add hdvd (Nat.dvd_refl _)
    · rw [hring', hall, List.append_assoc, produceAll_append s batches]
      exact produceAll_ring_congr (hconfig.trans (by rw [produceAll_frame])) hring _
  · obtain ⟨hstaging, hring'⟩ := synthesise_of_short hfull
    refine ⟨hconfig', ?_, batches, ?_, hdvd, hring'.trans hring⟩
    · rw [hstaging, List.length_append, List.length_singleton]
      rw [hconfig] at hfull
      omega
    · rw [hstaging, hall, List.append_assoc]

theorem Batched.after_synthesiseN (h : Batched all s t) (n : Nat) :
    Batched (all ++ (List.range n).map fun j => synth t (t.audio.samplesMade + j)) s (synthesiseN n t) := by
  induction n with
  | zero => rw [List.range_zero, List.map_nil, List.append_nil]; exact h
  | succ n ih =>
    rw [synthesiseN_succ, List.range_succ, List.map_append, ← List.append_assoc, List.map_singleton, ← synth_synthesiseN]
    exact ih.after_synthesise

/-- The whole batches among the samples are told by their number. -/
theorem Batched.split_eq (h : Batched all s t) :
    t.audio.staging = all.drop (s.config.batchSize * (all.length / s.config.batchSize)) ∧
      t.ring = (produceAll (all.take (s.config.batchSize * (all.length / s.config.batchSize))) s).ring := by
  obtain ⟨-, hshort, batches, rfl, ⟨q, hq⟩, hring⟩ := h
  have hwhole : s.config.batchSize * ((batches ++ t.audio.staging).length / s.config.batchSize) = batches.length := by
    rw [List.length_append, hq, Nat.mul_add_div (Nat.zero_lt_of_lt hshort), Nat.div_eq_of_lt hshort, Nat.add_zero]
  rw [hwhole, List.drop_left, List.take_left]
  exact ⟨rfl, hring⟩

/-! ## The statement -/

/-- The samples that `AudioAdvance(c)` synthesises (R378). -/
def newSamples (c : Nat) (s : State) : Nat := samplesDue s.config (s.audio.apuCycles + c) - s.audio.samplesMade

/-- The staged samples and those that `AudioAdvance(c)` synthesises, in order. -/
def stagedAndNew (c : Nat) (s : State) : List Sample :=
  s.audio.staging ++ (List.range (newSamples c s)).map fun j => synth s (s.audio.samplesMade + j)

/-- How many of them go to the ring. -/
def wholeBatches (c : Nat) (s : State) : Nat :=
  s.config.batchSize * ((stagedAndNew c s).length / s.config.batchSize)

theorem audioAdvance_batched (c : Nat) (h : s.audio.staging.length < s.config.batchSize) :
    Batched (stagedAndNew c s) s (audioAdvance c s) :=
  Batched.after_synthesiseN (s := s) (t := { s with audio := { s.audio with apuCycles := s.audio.apuCycles + c } })
    ⟨rfl, h, [], rfl, Nat.dvd_zero _, rfl⟩ (newSamples c s)

theorem audioAdvance_audio (c : Nat) (h : s.audio.staging.length < s.config.batchSize) :
    (audioAdvance c s).audio = {
      apuCycles := s.audio.apuCycles + c
      samplesMade := s.audio.samplesMade + newSamples c s
      staging := (stagedAndNew c s).drop (wholeBatches c s) } := by
  have hcycles : (audioAdvance c s).audio.apuCycles = s.audio.apuCycles + c := synthesiseN_apuCycles _ _
  have hmade : (audioAdvance c s).audio.samplesMade = s.audio.samplesMade + newSamples c s := synthesiseN_samplesMade _ _
  have hstaging : (audioAdvance c s).audio.staging = _ := (audioAdvance_batched c h).split_eq.1
  rw [wholeBatches, ← hcycles, ← hmade, ← hstaging]

theorem audioAdvance_ring (c : Nat) (h : s.audio.staging.length < s.config.batchSize) :
    (audioAdvance c s).ring = (produceAll ((stagedAndNew c s).take (wholeBatches c s)) s).ring :=
  (audioAdvance_batched c h).split_eq.2

/-- Settles O49: the parts of the audio unit and of the ring, and the frames of `AudioAdvance` and of the producer. -/
theorem audioAdvanceMakesTheDueSamples : Obligations.AudioAdvanceMakesTheDueSamples := by
  intro c s _ h k all whole t
  have haudio : (audioAdvance c s).audio = ⟨s.audio.apuCycles + c, s.audio.samplesMade + k, all.drop whole⟩ :=
    audioAdvance_audio c h
  have hring : (audioAdvance c s).ring = t.ring := audioAdvance_ring c h
  refine ⟨?_, by rw [audioAdvance_frame], by rw [audioAdvance_frame]⟩
  calc audioAdvance c s
      = { s with
          audio := (audioAdvance c s).audio, ring := (audioAdvance c s).ring, callback := (audioAdvance c s).callback } := by
        rw [audioAdvance_frame]
    _ = _ := by
        rw [haudio, hring, show t = _ from produceAll_frame s (all.take whole)]

end Sys2Proof.Machine
end

/-! # The audio callback agent (60_exceptions.md R384, R387, R395) -/

section

namespace Sys2Proof.Machine

variable {s t : State} {k lag j n r : Nat} {more : List Turn}

/-! ## One turn -/

theorem step_call (h : s.agenda = .call k lag :: more) :
    step s = .next (pullCall k (lookBack lag { s with agenda := more })) := by
  simp only [step, h]

theorem step_advance (h : s.agenda = .advance lag :: more) :
    step s = .next (pullAdvance (lookBack lag { s with agenda := more })) := by
  simp only [step, h]

/-- Settles O55: by the frames of the two turns. -/
theorem callbackTurnsWriteOnlyTheReadCursor : Obligations.CallbackTurnsWriteOnlyTheReadCursor := by
  intro s t k lag more hagenda hstep
  rcases hagenda with h | h
  · rw [step_call h] at hstep
    obtain rfl := Host.Outcome.next.inj hstep
    rw [pullCall_frame]
    rfl
  · rw [step_advance h] at hstep
    obtain rfl := Host.Outcome.next.inj hstep
    rw [pullAdvance_frame]
    rfl

/-! ## The bytes of a Pull -/

theorem sampleBytes_length (l : List Sample) : (l.flatMap fun v => [lo v, hi v]).length = 2 * l.length := by
  induction l with
  | nil => rfl
  | cons v l ih =>
    rw [List.flatMap_cons, List.length_append, ih]
    exact Nat.add_comm 2 _

/-- A Pull returns as many bytes as it was asked for (60_exceptions.md R386). -/
theorem pullBytes_length {got : List Sample} (h : got.length ≤ k / 2) : (pullBytes k got).length = k := by
  rw [pullBytes, List.length_append, sampleBytes_length, List.length_append, List.length_replicate]
  split_ifs <;> simp only [List.length_cons, List.length_nil] <;> omega

/-! ## A Pull from call to return -/

/-- The first `j` samples after the read cursor `r`. -/
def samplesFrom (s : State) (r j : Nat) : List Sample :=
  (List.range j).map fun i => s.ring.slot ((r + i) % s.config.ringCapacity)

@[simp] theorem samplesFrom_length (s : State) (r j : Nat) : (samplesFrom s r j).length = j := by
  rw [samplesFrom, List.length_map, List.length_range]

theorem samplesFrom_succ (s : State) (r j : Nat) :
    samplesFrom s r (j + 1) = samplesFrom s r j ++ [s.ring.slot ((r + j) % s.config.ringCapacity)] := by
  rw [samplesFrom, List.range_succ, List.map_append]
  rfl

/-- A Pull of `k` bytes in progress that has read `j` of the `n` samples it copies from `r` on, with the turns `turns` to come. -/
def pulling (s : State) (r k n j : Nat) (turns : List Turn) : State :=
  { s with
    ring := { s.ring with rcur := r }
    callback := { pull := some ⟨k, n, samplesFrom s r j⟩, returned := s.callback.returned, unseen := [] }
    agenda := turns }

/-- The state a Pull of `k` bytes and `n` samples from `r` on leaves when it returns. -/
def pulled (s : State) (r k n : Nat) (turns : List Turn) : State :=
  { s with
    ring := { s.ring with rcur := r + n }
    callback := { pull := none, returned := pullBytes k (samplesFrom s r n), unseen := [] }
    agenda := turns }

/-- The call corrects the read cursor and fixes the number of samples. -/
theorem step_call_pulling (h : s.callback.pull = none)
    (hr : correctedRcur s.config.ringCapacity s.ring.wcur s.ring.rcur = r) (hn : min (k / 2) (s.ring.wcur - r) = n) :
    step { s with agenda := .call k 0 :: more } = .next (pulling s r k n 0 more) := by
  subst hr hn
  rw [step_call rfl]
  simp only [pullCall, lookBack_frame, h]
  rfl

/-- Each turn reads the next sample while there is one to read. -/
theorem step_pulling (h : j < n) :
    step (pulling s r k n j (.advance 0 :: more)) = .next (pulling s r k n (j + 1) more) := by
  rw [step_advance rfl, pulling, pulling, samplesFrom_succ]
  simp only [pullAdvance, lookBack_frame, samplesFrom_length, if_pos h]
  rfl

/-- The turn after the last sample publishes the read cursor and returns. -/
theorem step_pulling_last : step (pulling s r k n n (.advance 0 :: more)) = .next (pulled s r k n more) := by
  rw [step_advance rfl, pulling]
  simp only [pullAdvance, lookBack_frame, samplesFrom_length, if_neg (Nat.lt_irrefl n)]
  rfl

theorem run_succ_of_step {u : State} (m : Nat) (h : step u = .next t) :
    Host.Core.run Sys2Proof.core (m + 1) u = Host.Core.run Sys2Proof.core m t := by
  have hcore : Sys2Proof.core.step u = .next t := h
  simp only [Host.Core.run, hcore]

/-- The turns that are left read the samples that are left, and one more returns. -/
theorem run_pulling (m : Nat) (h : j + m = n) :
    Host.Core.run Sys2Proof.core (m + 1) (pulling s r k n j (List.replicate (m + 1) (.advance 0) ++ more)) =
      .next (pulled s r k n more) := by
  induction m generalizing j with
  | zero =>
    obtain rfl : j = n := h
    exact run_succ_of_step 0 step_pulling_last
  | succ m ih => exact (run_succ_of_step (m + 1) (step_pulling (by omega))).trans (ih (by omega))

/-- Settles O53: a call, a turn for each sample, and one that returns. -/
theorem uninterruptedPullReturnsExactlyTheBytes : Obligations.UninterruptedPullReturnsExactlyTheBytes := by
  intro s k more hpull w cap r n out bytes
  have hbytes : bytes = pullBytes k (samplesFrom s r n) := by rw [pullBytes, samplesFrom_length]; rfl
  have hlen : (samplesFrom s r n).length ≤ k / 2 := by rw [samplesFrom_length]; exact Nat.min_le_left _ _
  rw [hbytes]
  exact ⟨pullBytes_length hlen,
    (run_succ_of_step (n + 1) (step_call_pulling hpull rfl rfl)).trans (run_pulling n (Nat.zero_add n))⟩

end Sys2Proof.Machine
end

/-! # Every step keeps the invariant (10_state.md R34 to R36, 20_memory.md R60, 60_exceptions.md R343, R378, R386)

Each part of the invariant speaks of a few parts of the state. So what a part of a step does to those is all that matters: the CPU
changes the bus alone, a feed moves both units on by the same cycles, and a turn of the callback agent the consumer's side. -/

section

namespace Sys2Proof.Machine

variable {s t : State} {row : Row} {f : State → State} {c : Nat}

/-! ## What each part of the invariant speaks of -/

theorem VideoInv.congr (h : VideoInv s) (hvideo : t.video = s.video)
    (htotal : t.sched.totalCycles = s.sched.totalCycles) : VideoInv t := by
  obtain ⟨hphase, hscanline, hvstate, hactive⟩ := h
  rw [← hvideo] at hphase hscanline hvstate hactive
  exact ⟨htotal ▸ hphase, hscanline, hvstate, hactive⟩

theorem AudioInv.congr (h : AudioInv s) (haudio : t.audio = s.audio) (hslots : t.ring.slots = s.ring.slots)
    (hwcur : t.ring.wcur = s.ring.wcur) (htotal : t.sched.totalCycles = s.sched.totalCycles) (hconfig : t.config = s.config) :
    AudioInv t where
  phase := by rw [haudio, htotal, h.phase]
  made := by rw [haudio, hconfig, h.made]
  staged := by rw [haudio, hconfig]; exact h.staged
  written := by rw [haudio, hwcur, h.written]
  batches := by rw [hwcur, hconfig, h.batches]
  slots := by rw [hslots, hconfig, h.slots]

theorem ConsumerInv.congr (h : ConsumerInv s) (hring : t.ring = s.ring) (hcallback : t.callback = s.callback)
    (hconfig : t.config = s.config) : ConsumerInv t where
  behind := by rw [hring, hcallback]; exact h.behind
  pulling := by rw [hcallback, hconfig]; exact h.pulling

theorem MachineInv.congr (h : MachineInv s) (hbus : t.bus.wf = true) (hvideo : t.video = s.video) (haudio : t.audio = s.audio)
    (hring : t.ring = s.ring) (htotal : t.sched.totalCycles = s.sched.totalCycles) (hcallback : t.callback = s.callback)
    (hconfig : t.config = s.config) : MachineInv t where
  config := by rw [hconfig, h.config]
  bus := hbus
  video := h.video.congr hvideo htotal
  audio := h.audio.congr haudio (by rw [hring]) (by rw [hring]) htotal hconfig
  consumer := h.consumer.congr hring hcallback hconfig

/-! ## The CPU -/

theorem enter_bus_wf (h : s.bus.wf = true) (ret : Word) (b : Bool) (vector : Word) (c : Nat) :
    (enter ret b vector c s).bus.wf = true := by
  rw [enter_eq]
  exact Memory.write_wf (Memory.write_wf (Memory.write_wf h _ _) _ _) _ _

/-- Every operation leaves the bus as it is or writes single bytes. -/
theorem Operation.bus_wf (hf : Operation row f) (h : s.bus.wf = true) : (f s).bus.wf = true := by
  cases hf with
  | store | shiftMem | stepMem | pushA | pushP => exact Memory.write_wf h _ _
  | callTo => rw [callTo_eq]; exact Memory.write_wf (Memory.write_wf h _ _) _ _
  | softwareInterrupt => exact enter_bus_wf h _ _ _ _
  | load => rw [load_eq]; exact h
  | transfer => rw [transfer_eq]; exact h
  | stepReg => rw [stepReg_eq]; exact h
  | branch => dsimp only; rw [branch_eq]; exact h
  | transferToSp | adc | sbc | logic | compare | bitTest | shiftA | jump | returnFromCall | returnFromInterrupt | advance
  | pullA | pullP | writeC | writeI | writeD | writeV => exact h

theorem Operation.machineInv (hf : Operation row f) (h : MachineInv s) : MachineInv (f s) := by
  have hbus := hf.bus_wf h.bus
  obtain ⟨_, _, -, hframe⟩ := hf.frame s
  rw [hframe]
  exact h.congr hbus rfl rfl rfl rfl rfl rfl

theorem enter_machineInv (h : MachineInv s) (ret : Word) (b : Bool) (vector : Word) (c : Nat) :
    MachineInv (enter ret b vector c s) := by
  have hbus := enter_bus_wf h.bus ret b vector c
  rw [enter_eq] at hbus ⊢
  exact h.congr hbus rfl rfl rfl rfl rfl rfl

/-! ## The video unit -/

/-- The unit's invariant is phase lock with the total (60_exceptions.md R343). -/
theorem videoInv_iff_after : VideoInv s ↔ VideoAfter (3 * s.sched.totalCycles) s.video :=
  ⟨fun ⟨hphase, hscanline, hvstate, hactive⟩ => ⟨hphase, hscanline, hvstate, hactive⟩,
    fun ⟨hphase, hscanline, hvstate, hactive⟩ => ⟨hphase, hscanline, hvstate, hactive⟩⟩

/-- Three PPU steps a cycle keep the unit in phase with a total that is `c` cycles ahead of it. -/
theorem videoAdvance_videoInv {n : Nat} (h : VideoAfter (3 * n) s.video) (hn : s.sched.totalCycles = n + c) :
    VideoInv (videoAdvance c s) := by
  have hsteps : VideoAfter (3 * n + 3 * c) (videoAdvance c s).video := h.steps (3 * c)
  have htotal : (videoAdvance c s).sched.totalCycles = n + c := by rw [videoAdvance_frame]; exact hn
  rwa [videoInv_iff_after, htotal, Nat.mul_add]

/-! ## The audio unit and the producer -/

theorem stagedAndNew_length (c : Nat) (s : State) :
    (stagedAndNew c s).length = s.audio.staging.length + newSamples c s := by
  rw [stagedAndNew, List.length_append, List.length_map, List.length_range]

/-- The samples due never fall, so what is made of them catches up exactly. -/
theorem samplesMade_add_newSamples (h : s.audio.samplesMade = samplesDue s.config s.audio.apuCycles) (c : Nat) :
    s.audio.samplesMade + newSamples c s = samplesDue s.config (s.audio.apuCycles + c) := by
  have hmono := samplesDue_mono s.config (Nat.le_add_right s.audio.apuCycles c)
  unfold newSamples
  omega

/-- Advancing the audio unit by the cycles the total is ahead of it keeps its invariant: the ring receives whole batches. -/
theorem audioAdvance_audioInv (hphase : s.audio.apuCycles + c = s.sched.totalCycles)
    (hmade : s.audio.samplesMade = samplesDue s.config s.audio.apuCycles)
    (hstaged : s.audio.staging.length < s.config.batchSize)
    (hwritten : s.ring.wcur + s.audio.staging.length = s.audio.samplesMade)
    (hbatches : s.config.batchSize ∣ s.ring.wcur) (hring : RingWf s) : AudioInv (audioAdvance c s) := by
  obtain ⟨hconfig, hshort, batches, hall, hdvd, hring'⟩ := audioAdvance_batched c hstaged
  have haudio := audioAdvance_audio c hstaged
  have hwcur : (audioAdvance c s).ring.wcur = s.ring.wcur + batches.length := by rw [hring', produceAll_frame]
  have hlength := congrArg List.length hall
  rw [stagedAndNew_length, List.length_append] at hlength
  constructor
  case phase => rw [haudio, audioAdvance_frame]; exact hphase
  case made => rw [hconfig, haudio]; exact samplesMade_add_newSamples hmade c
  case staged => rw [hconfig]; exact hshort
  case written =>
    have hmade' : (audioAdvance c s).audio.samplesMade = s.audio.samplesMade + newSamples c s := by rw [haudio]
    omega
  case batches => rw [hwcur, hconfig]; exact Nat.mod_eq_zero_of_dvd (Nat.dvd_add hbatches hdvd)
  case slots => rw [hring', hconfig]; exact produceAll_slots_wf s batches hring.capacity hring.slots

/-! ## The consumer's side while the producer writes -/

/-- Word of writes to slots says nothing of the write cursor. -/
theorem Behind.append_slotNotes {notes u : List Replaced} {r w : Nat} (h : Behind r u w) (hn : SlotNotes notes) :
    Behind r (notes ++ u) w := by
  induction notes with
  | nil => exact h
  | cons e notes ih =>
    obtain ⟨⟨k, old, rfl⟩, hrest⟩ := List.forall_mem_cons.1 hn
    exact ih hrest

/-- The cursor that a flush publishes is at or above the one before it. -/
theorem flush_consumerInv (h : ConsumerInv s) : ConsumerInv (flush s) := by
  obtain ⟨notes, hnotes, hunseen⟩ := produceAll_unseen s.audio.staging s
  have hbehind : Behind (s.ring.rcur + s.callback.reading) (flush s).callback.unseen (flush s).ring.wcur := by
    rw [flush_unseen, hunseen, flush_wcur]
    exact ⟨Nat.le_add_right _ _, h.behind.append_slotNotes hnotes⟩
  rw [flush_frame] at hbehind ⊢
  exact ⟨hbehind, h.pulling⟩

theorem synthesise_consumerInv (s : State) (h : ConsumerInv s) : ConsumerInv (synthesise s) := by
  simp only [synthesise]
  split
  · exact flush_consumerInv (h.congr rfl rfl rfl)
  · exact h.congr rfl rfl rfl

theorem audioAdvance_consumerInv (h : ConsumerInv s) (c : Nat) : ConsumerInv (audioAdvance c s) :=
  synthesiseN_keeps _ synthesise_consumerInv _ (h.congr rfl rfl rfl)

/-! ## A feed, and the parts of a tick -/

theorem Config.ringCapacity_pos {g : Config} (h : g.wf = true) : 0 < g.ringCapacity := by
  simp only [Config.wf, Bool.and_eq_true, decide_eq_true_eq] at h
  omega

/-- A feed moves the total and both units on by the same cycles (60_exceptions.md R342, R343). -/
theorem feed_machineInv (h : MachineInv s) (c : Nat) : MachineInv (feed c s) := by
  obtain ⟨hconfig, hbus, hvideo, haudio, hconsumer⟩ := h
  let t := { s with sched := { s.sched with totalCycles := s.sched.totalCycles + c } }
  let u := videoAdvance c t
  have hu : u = { t with video := u.video, nmiRequest := u.nmiRequest, bus := u.bus } := videoAdvance_frame c t
  have hafter : VideoAfter (3 * s.sched.totalCycles) t.video := (videoInv_iff_after (s := s)).1 hvideo
  have huvideo : VideoInv u := videoAdvance_videoInv hafter rfl
  have huaudio : AudioInv (audioAdvance c u) := by
    rw [hu]
    exact audioAdvance_audioInv (congrArg (· + c) haudio.phase) haudio.made haudio.staged haudio.written
      (Nat.dvd_of_mod_eq_zero haudio.batches) ⟨Config.ringCapacity_pos hconfig, haudio.slots⟩
  have huconsumer : ConsumerInv u := by
    rw [hu]
    exact hconsumer.congr rfl rfl rfl
  have hfeed : feed c s = { u with audio := _, ring := _, callback := _ } := audioAdvance_frame u c
  exact
    { config := by rw [feed_config, hconfig]
      bus := by rw [hfeed]; exact videoAdvance_bus_wf c hbus
      video := huvideo.congr (by rw [hfeed]) (by rw [hfeed])
      audio := huaudio
      consumer := audioAdvance_consumerInv huconsumer c }

theorem takeInterrupt_machineInv (h : MachineInv s) : MachineInv (takeInterrupt s) := by
  have hnmi : MachineInv { s with nmiRequest := false } := h.congr h.bus rfl rfl rfl rfl rfl rfl
  rw [takeInterrupt_eq]
  split_ifs
  · exact feed_machineInv (enter_machineInv hnmi _ _ _ _) 7
  · exact feed_machineInv (enter_machineInv h _ _ _ _) 7
  · exact h

theorem endTick_machineInv (h : MachineInv s) : MachineInv (endTick s) := by
  have hfeed := feed_machineInv h s.cycles
  exact hfeed.congr hfeed.bus rfl rfl rfl rfl rfl rfl

/-! ## The turns of the callback agent -/

/-- What writes the read cursor and the callback agent's part has the consumer's invariant alone to keep. -/
theorem MachineInv.of_consumer (h : MachineInv s)
    (hframe : t = { s with ring := { s.ring with rcur := t.ring.rcur }, callback := t.callback }) (hconsumer : ConsumerInv t) :
    MachineInv t where
  config := by rw [hframe]; exact h.config
  bus := by rw [hframe]; exact h.bus
  video := h.video.congr (by rw [hframe]) (by rw [hframe])
  audio := h.audio.congr (by rw [hframe]) (by rw [hframe]) (by rw [hframe]) (by rw [hframe]) (by rw [hframe])
  consumer := hconsumer

theorem lookBack_machineInv (h : MachineInv s) (lag : Nat) : MachineInv (lookBack lag s) :=
  h.of_consumer rfl ⟨h.consumer.behind.take lag, h.consumer.pulling⟩

theorem correctedRcur_le {cap w r : Nat} (h : r ≤ w) : correctedRcur cap w r ≤ w ∧ w - correctedRcur cap w r ≤ cap := by
  unfold correctedRcur
  split_ifs <;> omega

/-- A call fixes no more samples than the write cursor it loads is ahead, and than fit the ring (60_exceptions.md R384). -/
theorem pullCall_consumerInv (h : ConsumerInv s) (k : Nat) : ConsumerInv (pullCall k s) := by
  cases hpull : s.callback.pull with
  | some p => simp only [pullCall, hpull]; exact h
  | none =>
    have hbehind : Behind s.ring.rcur s.callback.unseen s.ring.wcur := by
      have hb := h.behind
      rwa [Callback.reading, hpull] at hb
    obtain ⟨hle, hcap⟩ := correctedRcur_le (cap := s.config.ringCapacity) hbehind.le_before
    simp only [pullCall, hpull]
    constructor
    case behind => exact hbehind.raise (by simp only [Callback.reading, Option.map_some, Option.getD_some, seenWcur]; omega)
    case pulling =>
      rintro p ⟨⟩
      exact ⟨Nat.zero_le _, Nat.min_le_left _ _, (Nat.min_le_right _ _).trans hcap⟩

/-- The read cursor moves by the samples that were counted as being read. -/
theorem pullAdvance_consumerInv (h : ConsumerInv s) : ConsumerInv (pullAdvance s) := by
  cases hpull : s.callback.pull with
  | none => simp only [pullAdvance, hpull]; exact h
  | some p =>
    have hbehind : Behind (s.ring.rcur + p.count) s.callback.unseen s.ring.wcur := by
      have hb := h.behind
      rwa [Callback.reading, hpull] at hb
    obtain ⟨-, hasked, hcap⟩ := h.pulling p hpull
    simp only [pullAdvance, hpull]
    split_ifs with hcount
    · refine ⟨hbehind, ?_⟩
      rintro q ⟨⟩
      exact ⟨by rw [List.length_append, List.length_singleton]; exact hcount, hasked, hcap⟩
    · exact ⟨hbehind, nofun⟩

/-! ## Every step -/

theorem tick_machineInv (h : MachineInv s) (ht : tick s = .next t) : MachineInv t := by
  obtain ⟨f, hf, he⟩ := tick_operation s
  obtain rfl : endTick (f (beginTick s)) = t := Host.Outcome.next.inj (he.symm.trans ht)
  exact endTick_machineInv (hf.machineInv (takeInterrupt_machineInv (lookBack_machineInv h 0)))

/-- Settles O57: each of the two agents' turns keeps it. -/
theorem everyStepKeepsTheInvariant : Obligations.EveryStepKeepsTheInvariant := by
  intro s t h hstep
  have hagenda (more : List Turn) : MachineInv { s with agenda := more } := h.congr h.bus rfl rfl rfl rfl rfl rfl
  rcases hturns : s.agenda with _ | ⟨_ | ⟨k, lag⟩ | lag, more⟩
  · rw [step_of_emulation (.inl hturns)] at hstep
    exact tick_machineInv (hagenda _) hstep
  · rw [step_of_emulation (.inr ⟨more, hturns⟩)] at hstep
    exact tick_machineInv (hagenda _) hstep
  · rw [step_call hturns] at hstep
    obtain rfl := Host.Outcome.next.inj hstep
    have hlook := lookBack_machineInv (hagenda more) lag
    exact hlook.of_consumer (pullCall_frame _ k) (pullCall_consumerInv hlook.consumer k)
  · rw [step_advance hturns] at hstep
    obtain rfl := Host.Outcome.next.inj hstep
    have hlook := lookBack_machineInv (hagenda more) lag
    exact hlook.of_consumer (pullAdvance_frame _) (pullAdvance_consumerInv hlook.consumer)

end Sys2Proof.Machine
end

/-! # A tick does not see the consumer (60_exceptions.md R346, R383, 70_reset_and_hazards.md R448)

What `State.emulationView` drops, no part of a tick reads. `ConsumerBlind` says so of one function of the state; such functions
compose, and a tick is a chain of them. -/

section

namespace Sys2Proof.Machine

/-- `f` does the same to the part of a state that the emulation agent sees, whatever the callback agent did before. -/
def ConsumerBlind (f : State → State) : Prop :=
  ∀ s : State, (f s.emulationView).emulationView = (f s).emulationView

variable {f g : State → State} {row : Row} (s : State) (c : Nat)

@[simp] theorem emulationView_emulationView : s.emulationView.emulationView = s.emulationView := rfl

/-- A function that commutes with the view is blind: it neither reads nor sets what the view drops. -/
theorem ConsumerBlind.of_comm (h : ∀ s : State, f s.emulationView = (f s).emulationView) : ConsumerBlind f := fun s => by
  rw [h, emulationView_emulationView]

theorem ConsumerBlind.comp (hg : ConsumerBlind g) (hf : ConsumerBlind f) : ConsumerBlind fun s => g (f s) := fun s =>
  calc (g (f s.emulationView)).emulationView
    _ = (g (f s.emulationView).emulationView).emulationView := (hg _).symm
    _ = (g (f s).emulationView).emulationView := by rw [hf s]
    _ = (g (f s)).emulationView := hg _

/-- Which of two blind functions is run may hang on what the view shows. -/
theorem ConsumerBlind.ite {p : State → Prop} [DecidablePred p] (hp : ∀ s : State, p s.emulationView ↔ p s)
    (hf : ConsumerBlind f) (hg : ConsumerBlind g) : ConsumerBlind fun s => if p s then f s else g s := fun s => by
  by_cases h : p s
  · simp only [hp, if_pos h, hf s]
  · simp only [hp, if_neg h, hg s]

/-! ## The CPU -/

/-- Every operation reads and writes the CPU's part of the state and the bus. -/
theorem Operation.consumerBlind (hf : Operation row f) : ConsumerBlind f := by
  refine .of_comm fun s => ?_
  cases hf with
  | @load r | @transfer _ r | @stepReg r => cases r <;> rfl
  | branch => dsimp only; rw [branch_eq, branch_eq]; rfl
  | store | transferToSp | adc | sbc | logic | compare | bitTest | shiftA | shiftMem | stepMem | jump | callTo
  | returnFromCall | returnFromInterrupt | softwareInterrupt | advance | pushA | pushP | pullA | pullP
  | writeC | writeI | writeD | writeV => rfl

theorem enter_consumerBlind (b : Bool) (vector : Word) :
    ConsumerBlind fun s => enter s.cpu.pc b vector c s := fun _ => rfl

/-! ## The video unit -/

theorem ppuStep_consumerBlind : ConsumerBlind ppuStep :=
  .ite (fun _ => Iff.rfl) (fun _ => rfl) (.ite (fun _ => Iff.rfl) (fun _ => rfl) fun _ => rfl)

theorem ppuSteps_consumerBlind (n : Nat) : ConsumerBlind (ppuSteps n) := by
  induction n with
  | zero => exact fun _ => rfl
  | succ n ih => exact ih.comp ppuStep_consumerBlind

/-! ## The producer: it never loads the read cursor (60_exceptions.md R383) -/

theorem produceAll_consumerBlind (vs : List Sample) : ConsumerBlind (produceAll vs) := by
  induction vs with
  | nil => exact fun _ => rfl
  | cons v vs ih => exact ih.comp (f := produce v) fun _ => rfl

theorem flush_consumerBlind : ConsumerBlind flush := fun s =>
  ConsumerBlind.comp (g := fun t => { t with audio := { t.audio with staging := [] } }) (fun _ => rfl)
    (produceAll_consumerBlind s.audio.staging) s

/-! ## The audio unit -/

theorem synthesise_consumerBlind : ConsumerBlind synthesise :=
  .ite (fun _ => Iff.rfl) (flush_consumerBlind.comp fun _ => rfl) fun _ => rfl

theorem synthesiseN_consumerBlind (n : Nat) : ConsumerBlind (synthesiseN n) := by
  induction n with
  | zero => exact fun _ => rfl
  | succ n ih => exact ih.comp synthesise_consumerBlind

theorem audioAdvance_consumerBlind : ConsumerBlind (audioAdvance c) := fun s =>
  synthesiseN_consumerBlind _ { s with audio := { s.audio with apuCycles := s.audio.apuCycles + c } }

/-! ## A tick -/

theorem feed_consumerBlind : ConsumerBlind (feed c) := fun s =>
  (audioAdvance_consumerBlind c).comp (ppuSteps_consumerBlind (ppuPerCpu * c))
    { s with sched := { s.sched with totalCycles := s.sched.totalCycles + c } }

theorem takeInterrupt_consumerBlind : ConsumerBlind takeInterrupt := by
  have hentry (vector : Word) : ConsumerBlind fun s => feed 7 (enter s.cpu.pc false vector entryCycles s) :=
    (feed_consumerBlind 7).comp (enter_consumerBlind entryCycles false vector)
  rw [funext takeInterrupt_eq]
  exact .ite (fun _ => Iff.rfl) ((hentry nmiVector).comp (f := fun s => { s with nmiRequest := false }) fun _ => rfl)
    (.ite (fun _ => Iff.rfl) (hentry irqVector) fun _ => rfl)

theorem beginTick_consumerBlind : ConsumerBlind beginTick :=
  takeInterrupt_consumerBlind.comp (f := lookBack 0) fun _ => rfl

theorem endTick_consumerBlind : ConsumerBlind endTick :=
  .comp (g := fun t => { t with sched := { t.sched with tickCount := t.sched.tickCount + 1 } }) (fun _ => rfl)
    (f := fun s => feed s.cycles s) (fun s => feed_consumerBlind s.cycles s)

/-- A fetch reads the pc and the bus. -/
theorem fetch_emulationView : fetch s.emulationView = fetch s := rfl

/-- The tick of a state and the tick of its view run the same operation, and end alike. -/
theorem tick_emulationView :
    ∃ t u, tick s = .next t ∧ tick s.emulationView = .next u ∧ t.emulationView = u.emulationView := by
  have hfetch : fetch (beginTick s.emulationView) = fetch (beginTick s) := by
    rw [← fetch_emulationView, beginTick_consumerBlind, fetch_emulationView]
  obtain ⟨f, hf, he⟩ := exec_operation (fetch (beginTick s))
  refine ⟨endTick (f (beginTick s)), endTick (f (beginTick s.emulationView)), ?_, ?_, ?_⟩
  · rw [tick, he]
  · rw [tick, hfetch, he]
  · exact ((endTick_consumerBlind.comp hf.consumerBlind).comp beginTick_consumerBlind s).symm

/-- Settles O56: a state and its view tick alike, so two states with one view do. -/
theorem ticksDoNotDependOnTheConsumer : Obligations.TicksDoNotDependOnTheConsumer := by
  intro s s' t t' hview ht ht'
  obtain ⟨r, u, hr, hu, hru⟩ := tick_emulationView s
  obtain ⟨r', u', hr', hu', hru'⟩ := tick_emulationView s'
  obtain rfl : r = t := Host.Outcome.next.inj (hr.symm.trans ht)
  obtain rfl : r' = t' := Host.Outcome.next.inj (hr'.symm.trans ht')
  obtain rfl : u = u' := Host.Outcome.next.inj (hu.symm.trans (hview ▸ hu'))
  exact hru.trans hru'.symm

end Sys2Proof.Machine
end

/-! # The loader (70_reset_and_hazards.md R430 to R434) -/

section

namespace Sys2Proof.Machine

variable {file : List Byte} {bus m : Memory}

/-- A block write that ends within the bus is a window: its bytes in order, and every byte outside as it was (20_memory.md R63). -/
theorem Memory.read_writeWindow (h : m.wf = true) (a c : Word) (vs : List Byte) (hend : a.toNat + vs.length ≤ 65536) :
    (m.writeBlock a vs).read c =
      if a.toNat ≤ c.toNat ∧ c.toNat < a.toNat + vs.length then vs.getD (c.toNat - a.toNat) 0 else m.read c := by
  rw [Memory.read_writeBlock h a c vs (by omega)]
  have hc := c.isLt
  by_cases hle : a.toNat ≤ c.toNat
  · have hsub : (c - a).toNat = c.toNat - a.toNat := BitVec.toNat_sub_of_le hle
    simp only [hsub, hle, true_and, Nat.sub_lt_iff_lt_add' hle]
  · have hout : ¬ (c - a).toNat < vs.length := by bv_omega
    rw [if_neg hout, if_neg fun hin => hle hin.1]

/-! ## The program data -/

theorem programData_length {n : Nat} (h : 16 + n ≤ file.length) : (programData file n).length = n := by
  rw [programData, headerSize, List.length_take, List.length_drop]
  omega

theorem programData_getD {n k : Nat} (hk : k < n) : (programData file n).getD k 0 = file.getD (16 + k) 0 := by
  simp only [programData, headerSize, List.getD_eq_getElem?_getD, List.getElem?_take_of_lt hk, List.getElem?_drop]

/-! ## The checks and the two placements -/

/-- What `Load` checks (R430, R431). -/
theorem imageAccepted_iff :
    imageAccepted file = true ↔
      16 ≤ file.length ∧ file.take 3 = [0x4E, 0x45, 0x53] ∧
      16 + (file.getD 4 0).toNat * 16384 + (file.getD 5 0).toNat * 8192 ≤ file.length ∧ (file.getD 4 0).toNat ≠ 0 := by
  simp only [imageAccepted, Bool.and_eq_true, decide_eq_true_eq, beq_iff_eq, and_assoc]
  exact Iff.rfl

/-- The load fails exactly when a check does (R431). -/
theorem loadImage_eq_none_iff : loadImage file bus = none ↔ ¬ imageAccepted file = true := by
  unfold loadImage
  split_ifs with h <;> simp [h]

/-- One bank stands at both windows (R432). -/
theorem read_oneBank (hbus : bus.wf = true) (hdata : 16 + 16384 ≤ file.length) (a : Word) :
    ((bus.writeBlock lowerWindow (programData file prgBankSize)).writeBlock upperWindow
      (programData file prgBankSize)).read a =
      if a.toNat < 0x8000 then bus.read a else file.getD (16 + (a.toNat - 0x8000) % 16384) 0 := by
  have hlength : (programData file prgBankSize).length = 16384 := programData_length hdata
  have hbank : prgBankSize = 16384 := rfl
  have hlower : lowerWindow.toNat = 0x8000 := rfl
  have hupper : upperWindow.toNat = 0xC000 := rfl
  have ha := a.isLt
  rw [Memory.read_writeWindow (Memory.writeBlock_wf hbus _ _) _ _ _ (by omega),
    Memory.read_writeWindow hbus _ _ _ (by omega), hlength, hlower, hupper]
  by_cases hlow : a.toNat < 0x8000
  · rw [if_neg (by omega), if_neg (by omega), if_pos hlow]
  · rw [if_neg hlow]
    by_cases hfirst : a.toNat < 0xC000
    · rw [if_neg (by omega), if_pos (by omega), programData_getD (by omega), Nat.mod_eq_of_lt (by omega)]
    · rw [if_pos (by omega), programData_getD (by omega),
        show a.toNat - 0xC000 = (a.toNat - 0x8000) % 16384 by omega]

/-- The first two of several banks stand at 0x8000 and on (R432). -/
theorem read_severalBanks (hbus : bus.wf = true) (hdata : 16 + 32768 ≤ file.length) (a : Word) :
    (bus.writeBlock lowerWindow (programData file (2 * prgBankSize))).read a =
      if a.toNat < 0x8000 then bus.read a else file.getD (16 + (a.toNat - 0x8000)) 0 := by
  have hlength : (programData file (2 * prgBankSize)).length = 32768 := programData_length hdata
  have hbank : prgBankSize = 16384 := rfl
  have hlower : lowerWindow.toNat = 0x8000 := rfl
  have ha := a.isLt
  rw [Memory.read_writeWindow hbus _ _ _ (by omega), hlength, hlower]
  by_cases hlow : a.toNat < 0x8000
  · rw [if_neg (by omega), if_pos hlow]
  · rw [if_neg hlow, if_pos (by omega), programData_getD (by omega)]

/-- Settles O60: the checks are those listed, and an accepted file holds all the bytes the windows take. -/
theorem loaderFillsTheProgramWindows : Obligations.LoaderFillsTheProgramWindows := by
  intro file bus hbus prg chr
  refine ⟨?_, fun m hm a => ?_⟩
  · rw [loadImage_eq_none_iff, imageAccepted_iff, not_and_or, not_and_or, not_and_or, Nat.not_le, Nat.not_le, not_not]
  · have haccepted : imageAccepted file = true := by
      by_contra h
      exact Option.some_ne_none m (hm.symm.trans (loadImage_eq_none_iff.2 h))
    obtain ⟨-, -, hdata, hbanks⟩ := imageAccepted_iff.1 haccepted
    rw [loadImage, if_pos haccepted] at hm
    split_ifs at hm with hone
    · have hprg : prg = 1 := hone
      obtain rfl := Option.some.inj hm
      rw [read_oneBank hbus (by omega), if_pos hprg]
    · have hprg : prg ≠ 1 := hone
      obtain rfl := Option.some.inj hm
      rw [read_severalBanks hbus (by omega), if_neg hprg]

end Sys2Proof.Machine
end
